-- ==== Sys2Proof/Word.lean ====
section
/-! DEFINITION. The bit vectors the spec names: byte, halfword, word, doubleword, quadword (R20) and the 7-bit numbers of
registers, channels and special purpose registers (R7, R12). -/

namespace Sys2Proof

/-- A byte element, 8 bits (R20). -/
abbrev Byte := BitVec 8

/-- A halfword element, 16 bits (R20). -/
abbrev Half := BitVec 16

/-- A word element, an address, a channel datum or an instruction, 32 bits (R20, R37, R46, R100). -/
abbrev Word := BitVec 32

/-- A doubleword element, 64 bits (R20). -/
abbrev DWord := BitVec 64

/-- The contents of one general register, 128 bits (R30). -/
abbrev Quad := BitVec 128

/-- The number of a general register, 0 to 127 (R30). -/
abbrev RegNum := BitVec 7

/-- The number of a channel, 0 to 127 (R46). -/
abbrev ChNum := BitVec 7

/-- The number of a special purpose register, 0 to 127 (R118). -/
abbrev SprNum := BitVec 7

end Sys2Proof
end

