-- ==== Sys2Proof/Syntax.lean ====
section
/-! DEFINITION. The instructions: one constructor for each of the 212 rows of the opcode table (R130), operands in the order
of the syntax line (R106).  Registers, channels and special purpose registers are 7-bit numbers (R102, R103, R118).  An
immediate is the bit vector the written value stands for (R107); the classes that share the 7-bit field of the instruction
(s3, s6, s7, u3, u5, u6, u7) are that field (R108 to R110, R117).  `scale` is the exponent scale7 as the 8-bit field of the
instruction holds it (R116, R142 e; log 30).  A pseudo operand is part of the instruction (R34). -/

namespace Sys2Proof

/-- An instruction of Table 2-2 with its evaluated operands (R6). -/
inductive Instr where
  -- Integer arithmetic (R203 to R235)
  /-- `a rt, ra, rb` (R203). -/
  | a (rt : RegNum) (ra : RegNum) (rb : RegNum)
  /-- `absdb rt, ra, rb` (R204). -/
  | absdb (rt : RegNum) (ra : RegNum) (rb : RegNum)
  /-- `addx rt, ra, rb` (R205). -/
  | addx (rt : RegNum) (ra : RegNum) (rb : RegNum)
  /-- `ah rt, ra, rb` (R206). -/
  | ah (rt : RegNum) (ra : RegNum) (rb : RegNum)
  /-- `ahi rt, ra, s10` (R207). -/
  | ahi (rt : RegNum) (ra : RegNum) (s10 : BitVec 10)
  /-- `ai rt, ra, s10` (R208). -/
  | ai (rt : RegNum) (ra : RegNum) (s10 : BitVec 10)
  /-- `avgb rt, ra, rb` (R209). -/
  | avgb (rt : RegNum) (ra : RegNum) (rb : RegNum)
  /-- `bg rt, ra, rb` (R210). -/
  | bg (rt : RegNum) (ra : RegNum) (rb : RegNum)
  /-- `bgx rt, ra, rb` (R211). -/
  | bgx (rt : RegNum) (ra : RegNum) (rb : RegNum)
  /-- `cg rt, ra, rb` (R212). -/
  | cg (rt : RegNum) (ra : RegNum) (rb : RegNum)
  /-- `cgx rt, ra, rb` (R213). -/
  | cgx (rt : RegNum) (ra : RegNum) (rb : RegNum)
  /-- `clz rt, ra` (R214). -/
  | clz (rt : RegNum) (ra : RegNum)
  /-- `cntb rt, ra` (R215). -/
  | cntb (rt : RegNum) (ra : RegNum)
  /-- `mpy rt, ra, rb` (R216). -/
  | mpy (rt : RegNum) (ra : RegNum) (rb : RegNum)
  /-- `mpya rt, ra, rb, rc` (R217). -/
  | mpya (rt : RegNum) (ra : RegNum) (rb : RegNum) (rc : RegNum)
  /-- `mpyh rt, ra, rb` (R218). -/
  | mpyh (rt : RegNum) (ra : RegNum) (rb : RegNum)
  /-- `mpyhh rt, ra, rb` (R219). -/
  | mpyhh (rt : RegNum) (ra : RegNum) (rb : RegNum)
  /-- `mpyhha rt, ra, rb` (R220). -/
  | mpyhha (rt : RegNum) (ra : RegNum) (rb : RegNum)
  /-- `mpyhhau rt, ra, rb` (R221). -/
  | mpyhhau (rt : RegNum) (ra : RegNum) (rb : RegNum)
  /-- `mpyhhu rt, ra, rb` (R222). -/
  | mpyhhu (rt : RegNum) (ra : RegNum) (rb : RegNum)
  /-- `mpyi rt, ra, s10` (R223). -/
  | mpyi (rt : RegNum) (ra : RegNum) (s10 : BitVec 10)
  /-- `mpys rt, ra, rb` (R224). -/
  | mpys (rt : RegNum) (ra : RegNum) (rb : RegNum)
  /-- `mpyu rt, ra, rb` (R225). -/
  | mpyu (rt : RegNum) (ra : RegNum) (rb : RegNum)
  /-- `mpyui rt, ra, s10` (R226). -/
  | mpyui (rt : RegNum) (ra : RegNum) (s10 : BitVec 10)
  /-- `sf rt, ra, rb` (R227). -/
  | sf (rt : RegNum) (ra : RegNum) (rb : RegNum)
  /-- `sfh rt, ra, rb` (R228). -/
  | sfh (rt : RegNum) (ra : RegNum) (rb : RegNum)
  /-- `sfhi rt, ra, s10` (R229). -/
  | sfhi (rt : RegNum) (ra : RegNum) (s10 : BitVec 10)
  /-- `sfi rt, ra, s10` (R230). -/
  | sfi (rt : RegNum) (ra : RegNum) (s10 : BitVec 10)
  /-- `sfx rt, ra, rb` (R231). -/
  | sfx (rt : RegNum) (ra : RegNum) (rb : RegNum)
  /-- `sumb rt, ra, rb` (R232). -/
  | sumb (rt : RegNum) (ra : RegNum) (rb : RegNum)
  /-- `xsbh rt, ra` (R233). -/
  | xsbh (rt : RegNum) (ra : RegNum)
  /-- `xshw rt, ra` (R234). -/
  | xshw (rt : RegNum) (ra : RegNum)
  /-- `xswd rt, ra` (R235). -/
  | xswd (rt : RegNum) (ra : RegNum)
  -- Logical (R241 to R259)
  /-- `and rt, ra, rb` (R241). -/
  | and (rt : RegNum) (ra : RegNum) (rb : RegNum)
  /-- `andbi rt, ra, s10` (R242). -/
  | andbi (rt : RegNum) (ra : RegNum) (s10 : BitVec 10)
  /-- `andc rt, ra, rb` (R243). -/
  | andc (rt : RegNum) (ra : RegNum) (rb : RegNum)
  /-- `andhi rt, ra, s10` (R244). -/
  | andhi (rt : RegNum) (ra : RegNum) (s10 : BitVec 10)
  /-- `andi rt, ra, s10` (R245). -/
  | andi (rt : RegNum) (ra : RegNum) (s10 : BitVec 10)
  /-- `eqv rt, ra, rb` (R246). -/
  | eqv (rt : RegNum) (ra : RegNum) (rb : RegNum)
  /-- `nand rt, ra, rb` (R247). -/
  | nand (rt : RegNum) (ra : RegNum) (rb : RegNum)
  /-- `nor rt, ra, rb` (R248). -/
  | nor (rt : RegNum) (ra : RegNum) (rb : RegNum)
  /-- `or rt, ra, rb` (R249). -/
  | or (rt : RegNum) (ra : RegNum) (rb : RegNum)
  /-- `orbi rt, ra, s10` (R250). -/
  | orbi (rt : RegNum) (ra : RegNum) (s10 : BitVec 10)
  /-- `orc rt, ra, rb` (R251). -/
  | orc (rt : RegNum) (ra : RegNum) (rb : RegNum)
  /-- `orhi rt, ra, s10` (R252). -/
  | orhi (rt : RegNum) (ra : RegNum) (s10 : BitVec 10)
  /-- `ori rt, ra, s10` (R253). -/
  | ori (rt : RegNum) (ra : RegNum) (s10 : BitVec 10)
  /-- `orx rt, ra` (R254). -/
  | orx (rt : RegNum) (ra : RegNum)
  /-- `selb rt, ra, rb, rc` (R255). -/
  | selb (rt : RegNum) (ra : RegNum) (rb : RegNum) (rc : RegNum)
  /-- `xor rt, ra, rb` (R256). -/
  | xor (rt : RegNum) (ra : RegNum) (rb : RegNum)
  /-- `xorbi rt, ra, s10` (R257). -/
  | xorbi (rt : RegNum) (ra : RegNum) (s10 : BitVec 10)
  /-- `xorhi rt, ra, s10` (R258). -/
  | xorhi (rt : RegNum) (ra : RegNum) (s10 : BitVec 10)
  /-- `xori rt, ra, s10` (R259). -/
  | xori (rt : RegNum) (ra : RegNum) (s10 : BitVec 10)
  -- Constants, masks, shuffle (R264 to R284)
  /-- `cbd rt, u7(ra)` (R264). -/
  | cbd (rt : RegNum) (u7 : BitVec 7) (ra : RegNum)
  /-- `cbx rt, ra, rb` (R265). -/
  | cbx (rt : RegNum) (ra : RegNum) (rb : RegNum)
  /-- `cdd rt, u7(ra)` (R266). -/
  | cdd (rt : RegNum) (u7 : BitVec 7) (ra : RegNum)
  /-- `cdx rt, ra, rb` (R267). -/
  | cdx (rt : RegNum) (ra : RegNum) (rb : RegNum)
  /-- `chd rt, u7(ra)` (R268). -/
  | chd (rt : RegNum) (u7 : BitVec 7) (ra : RegNum)
  /-- `chx rt, ra, rb` (R269). -/
  | chx (rt : RegNum) (ra : RegNum) (rb : RegNum)
  /-- `cwd rt, u7(ra)` (R270). -/
  | cwd (rt : RegNum) (u7 : BitVec 7) (ra : RegNum)
  /-- `cwx rt, ra, rb` (R271). -/
  | cwx (rt : RegNum) (ra : RegNum) (rb : RegNum)
  /-- `fsm rt, ra` (R272). -/
  | fsm (rt : RegNum) (ra : RegNum)
  /-- `fsmb rt, ra` (R273). -/
  | fsmb (rt : RegNum) (ra : RegNum)
  /-- `fsmbi rt, u16` (R274). -/
  | fsmbi (rt : RegNum) (u16 : BitVec 16)
  /-- `fsmh rt, ra` (R275). -/
  | fsmh (rt : RegNum) (ra : RegNum)
  /-- `gb rt, ra` (R276). -/
  | gb (rt : RegNum) (ra : RegNum)
  /-- `gbb rt, ra` (R277). -/
  | gbb (rt : RegNum) (ra : RegNum)
  /-- `gbh rt, ra` (R278). -/
  | gbh (rt : RegNum) (ra : RegNum)
  /-- `il rt, s16` (R279). -/
  | il (rt : RegNum) (s16 : BitVec 16)
  /-- `ila rt, u18` (R280). -/
  | ila (rt : RegNum) (u18 : BitVec 18)
  /-- `ilh rt, u16` (R281). -/
  | ilh (rt : RegNum) (u16 : BitVec 16)
  /-- `ilhu rt, u16` (R282). -/
  | ilhu (rt : RegNum) (u16 : BitVec 16)
  /-- `iohl rt, u16` (R283). -/
  | iohl (rt : RegNum) (u16 : BitVec 16)
  /-- `shufb rt, ra, rb, rc` (R284). -/
  | shufb (rt : RegNum) (ra : RegNum) (rb : RegNum) (rc : RegNum)
  -- Shift and rotate (R292 to R322)
  /-- `rot rt, ra, rb` (R292). -/
  | rot (rt : RegNum) (ra : RegNum) (rb : RegNum)
  /-- `roth rt, ra, rb` (R293). -/
  | roth (rt : RegNum) (ra : RegNum) (rb : RegNum)
  /-- `rothi rt, ra, s7` (R294). -/
  | rothi (rt : RegNum) (ra : RegNum) (s7 : BitVec 7)
  /-- `rothm rt, ra, rb` (R295). -/
  | rothm (rt : RegNum) (ra : RegNum) (rb : RegNum)
  /-- `rothmi rt, ra, s6` (R296). -/
  | rothmi (rt : RegNum) (ra : RegNum) (s6 : BitVec 7)
  /-- `roti rt, ra, s7` (R297). -/
  | roti (rt : RegNum) (ra : RegNum) (s7 : BitVec 7)
  /-- `rotm rt, ra, rb` (R298). -/
  | rotm (rt : RegNum) (ra : RegNum) (rb : RegNum)
  /-- `rotma rt, ra, rb` (R299). -/
  | rotma (rt : RegNum) (ra : RegNum) (rb : RegNum)
  /-- `rotmah rt, ra, rb` (R300). -/
  | rotmah (rt : RegNum) (ra : RegNum) (rb : RegNum)
  /-- `rotmahi rt, ra, s6` (R301). -/
  | rotmahi (rt : RegNum) (ra : RegNum) (s6 : BitVec 7)
  /-- `rotmai rt, ra, s7` (R302). -/
  | rotmai (rt : RegNum) (ra : RegNum) (s7 : BitVec 7)
  /-- `rotmi rt, ra, s7` (R303). -/
  | rotmi (rt : RegNum) (ra : RegNum) (s7 : BitVec 7)
  /-- `rotqbi rt, ra, rb` (R304). -/
  | rotqbi (rt : RegNum) (ra : RegNum) (rb : RegNum)
  /-- `rotqbii rt, ra, u3` (R305). -/
  | rotqbii (rt : RegNum) (ra : RegNum) (u3 : BitVec 7)
  /-- `rotqby rt, ra, rb` (R306). -/
  | rotqby (rt : RegNum) (ra : RegNum) (rb : RegNum)
  /-- `rotqbybi rt, ra, rb` (R307). -/
  | rotqbybi (rt : RegNum) (ra : RegNum) (rb : RegNum)
  /-- `rotqbyi rt, ra, s7` (R308). -/
  | rotqbyi (rt : RegNum) (ra : RegNum) (s7 : BitVec 7)
  /-- `rotqmbi rt, ra, rb` (R309). -/
  | rotqmbi (rt : RegNum) (ra : RegNum) (rb : RegNum)
  /-- `rotqmbii rt, ra, s3` (R310). -/
  | rotqmbii (rt : RegNum) (ra : RegNum) (s3 : BitVec 7)
  /-- `rotqmby rt, ra, rb` (R311). -/
  | rotqmby (rt : RegNum) (ra : RegNum) (rb : RegNum)
  /-- `rotqmbybi rt, ra, rb` (R312). -/
  | rotqmbybi (rt : RegNum) (ra : RegNum) (rb : RegNum)
  /-- `rotqmbyi rt, ra, s6` (R313). -/
  | rotqmbyi (rt : RegNum) (ra : RegNum) (s6 : BitVec 7)
  /-- `shl rt, ra, rb` (R314). -/
  | shl (rt : RegNum) (ra : RegNum) (rb : RegNum)
  /-- `shlh rt, ra, rb` (R315). -/
  | shlh (rt : RegNum) (ra : RegNum) (rb : RegNum)
  /-- `shlhi rt, ra, u5` (R316). -/
  | shlhi (rt : RegNum) (ra : RegNum) (u5 : BitVec 7)
  /-- `shli rt, ra, u6` (R317). -/
  | shli (rt : RegNum) (ra : RegNum) (u6 : BitVec 7)
  /-- `shlqbi rt, ra, rb` (R318). -/
  | shlqbi (rt : RegNum) (ra : RegNum) (rb : RegNum)
  /-- `shlqbii rt, ra, u3` (R319). -/
  | shlqbii (rt : RegNum) (ra : RegNum) (u3 : BitVec 7)
  /-- `shlqby rt, ra, rb` (R320). -/
  | shlqby (rt : RegNum) (ra : RegNum) (rb : RegNum)
  /-- `shlqbybi rt, ra, rb` (R321). -/
  | shlqbybi (rt : RegNum) (ra : RegNum) (rb : RegNum)
  /-- `shlqbyi rt, ra, u5` (R322). -/
  | shlqbyi (rt : RegNum) (ra : RegNum) (u5 : BitVec 7)
  -- Compare and conditional halt (R332 to R355)
  /-- `ceq rt, ra, rb` (R332). -/
  | ceq (rt : RegNum) (ra : RegNum) (rb : RegNum)
  /-- `ceqb rt, ra, rb` (R333). -/
  | ceqb (rt : RegNum) (ra : RegNum) (rb : RegNum)
  /-- `ceqbi rt, ra, s10` (R334). -/
  | ceqbi (rt : RegNum) (ra : RegNum) (s10 : BitVec 10)
  /-- `ceqh rt, ra, rb` (R335). -/
  | ceqh (rt : RegNum) (ra : RegNum) (rb : RegNum)
  /-- `ceqhi rt, ra, s10` (R336). -/
  | ceqhi (rt : RegNum) (ra : RegNum) (s10 : BitVec 10)
  /-- `ceqi rt, ra, s10` (R337). -/
  | ceqi (rt : RegNum) (ra : RegNum) (s10 : BitVec 10)
  /-- `cgt rt, ra, rb` (R338). -/
  | cgt (rt : RegNum) (ra : RegNum) (rb : RegNum)
  /-- `cgtb rt, ra, rb` (R339). -/
  | cgtb (rt : RegNum) (ra : RegNum) (rb : RegNum)
  /-- `cgtbi rt, ra, s10` (R340). -/
  | cgtbi (rt : RegNum) (ra : RegNum) (s10 : BitVec 10)
  /-- `cgth rt, ra, rb` (R341). -/
  | cgth (rt : RegNum) (ra : RegNum) (rb : RegNum)
  /-- `cgthi rt, ra, s10` (R342). -/
  | cgthi (rt : RegNum) (ra : RegNum) (s10 : BitVec 10)
  /-- `cgti rt, ra, s10` (R343). -/
  | cgti (rt : RegNum) (ra : RegNum) (s10 : BitVec 10)
  /-- `clgt rt, ra, rb` (R344). -/
  | clgt (rt : RegNum) (ra : RegNum) (rb : RegNum)
  /-- `clgtb rt, ra, rb` (R345). -/
  | clgtb (rt : RegNum) (ra : RegNum) (rb : RegNum)
  /-- `clgtbi rt, ra, s10` (R346). -/
  | clgtbi (rt : RegNum) (ra : RegNum) (s10 : BitVec 10)
  /-- `clgth rt, ra, rb` (R347). -/
  | clgth (rt : RegNum) (ra : RegNum) (rb : RegNum)
  /-- `clgthi rt, ra, s10` (R348). -/
  | clgthi (rt : RegNum) (ra : RegNum) (s10 : BitVec 10)
  /-- `clgti rt, ra, s10` (R349). -/
  | clgti (rt : RegNum) (ra : RegNum) (s10 : BitVec 10)
  /-- `heq ra, rb or heq rt, ra, rb` (R350). -/
  | heq (rt : RegNum) (ra : RegNum) (rb : RegNum)
  /-- `heqi ra, s10 or heqi rt, ra, s10` (R351). -/
  | heqi (rt : RegNum) (ra : RegNum) (s10 : BitVec 10)
  /-- `hgt ra, rb or hgt rt, ra, rb` (R352). -/
  | hgt (rt : RegNum) (ra : RegNum) (rb : RegNum)
  /-- `hgti ra, s10 or hgti rt, ra, s10` (R353). -/
  | hgti (rt : RegNum) (ra : RegNum) (s10 : BitVec 10)
  /-- `hlgt ra, rb or hlgt rt, ra, rb` (R354). -/
  | hlgt (rt : RegNum) (ra : RegNum) (rb : RegNum)
  /-- `hlgti ra, s10 or hlgti rt, ra, s10` (R355). -/
  | hlgti (rt : RegNum) (ra : RegNum) (s10 : BitVec 10)
  -- Branch, hint, interrupt return (R364 to R399)
  /-- `bi ra` (R364). -/
  | bi (ra : RegNum)
  /-- `bid ra` (R365). -/
  | bid (ra : RegNum)
  /-- `bie ra` (R366). -/
  | bie (ra : RegNum)
  /-- `bihnz rc, ra` (R367). -/
  | bihnz (rc : RegNum) (ra : RegNum)
  /-- `bihnzd rc, ra` (R368). -/
  | bihnzd (rc : RegNum) (ra : RegNum)
  /-- `bihnze rc, ra` (R369). -/
  | bihnze (rc : RegNum) (ra : RegNum)
  /-- `bihz rc, ra` (R370). -/
  | bihz (rc : RegNum) (ra : RegNum)
  /-- `bihzd rc, ra` (R371). -/
  | bihzd (rc : RegNum) (ra : RegNum)
  /-- `bihze rc, ra` (R372). -/
  | bihze (rc : RegNum) (ra : RegNum)
  /-- `binz rc, ra` (R373). -/
  | binz (rc : RegNum) (ra : RegNum)
  /-- `binzd rc, ra` (R374). -/
  | binzd (rc : RegNum) (ra : RegNum)
  /-- `binze rc, ra` (R375). -/
  | binze (rc : RegNum) (ra : RegNum)
  /-- `bisl rt, ra` (R376). -/
  | bisl (rt : RegNum) (ra : RegNum)
  /-- `bisld rt, ra` (R377). -/
  | bisld (rt : RegNum) (ra : RegNum)
  /-- `bisle rt, ra` (R378). -/
  | bisle (rt : RegNum) (ra : RegNum)
  /-- `bisled rt, ra` (R379). -/
  | bisled (rt : RegNum) (ra : RegNum)
  /-- `bisledd rt, ra` (R380). -/
  | bisledd (rt : RegNum) (ra : RegNum)
  /-- `bislede rt, ra` (R381). -/
  | bislede (rt : RegNum) (ra : RegNum)
  /-- `biz rc, ra` (R382). -/
  | biz (rc : RegNum) (ra : RegNum)
  /-- `bizd rc, ra` (R383). -/
  | bizd (rc : RegNum) (ra : RegNum)
  /-- `bize rc, ra` (R384). -/
  | bize (rc : RegNum) (ra : RegNum)
  /-- `br s18` (R385). -/
  | br (s18 : BitVec 18)
  /-- `bra s18` (R386). -/
  | bra (s18 : BitVec 18)
  /-- `brasl rt, s18` (R387). -/
  | brasl (rt : RegNum) (s18 : BitVec 18)
  /-- `brhnz rc, s18` (R388). -/
  | brhnz (rc : RegNum) (s18 : BitVec 18)
  /-- `brhz rc, s18` (R389). -/
  | brhz (rc : RegNum) (s18 : BitVec 18)
  /-- `brnz rc, s18` (R390). -/
  | brnz (rc : RegNum) (s18 : BitVec 18)
  /-- `brsl rt, s18` (R391). -/
  | brsl (rt : RegNum) (s18 : BitVec 18)
  /-- `brz rc, s18` (R392). -/
  | brz (rc : RegNum) (s18 : BitVec 18)
  /-- `hbr s11, ra` (R393). -/
  | hbr (s11 : BitVec 11) (ra : RegNum)
  /-- `hbra s11, s18` (R394). -/
  | hbra (s11 : BitVec 11) (s18 : BitVec 18)
  /-- `hbrp` (R395). -/
  | hbrp
  /-- `hbrr s11, s18` (R396). -/
  | hbrr (s11 : BitVec 11) (s18 : BitVec 18)
  /-- `iret or iret ra` (R397). -/
  | iret (ra : RegNum)
  /-- `iretd or iretd ra` (R398). -/
  | iretd (ra : RegNum)
  /-- `irete or irete ra` (R399). -/
  | irete (ra : RegNum)
  -- Load and store (R402 to R409)
  /-- `lqa rt, s18` (R402). -/
  | lqa (rt : RegNum) (s18 : BitVec 18)
  /-- `lqd rt, s14(ra)` (R403). -/
  | lqd (rt : RegNum) (s14 : BitVec 14) (ra : RegNum)
  /-- `lqr rt, s18` (R404). -/
  | lqr (rt : RegNum) (s18 : BitVec 18)
  /-- `lqx rt, ra, rb` (R405). -/
  | lqx (rt : RegNum) (ra : RegNum) (rb : RegNum)
  /-- `stqa rc, s18` (R406). -/
  | stqa (rc : RegNum) (s18 : BitVec 18)
  /-- `stqd rc, s14(ra)` (R407). -/
  | stqd (rc : RegNum) (s14 : BitVec 14) (ra : RegNum)
  /-- `stqr rc, s18` (R408). -/
  | stqr (rc : RegNum) (s18 : BitVec 18)
  /-- `stqx rc, ra, rb` (R409). -/
  | stqx (rc : RegNum) (ra : RegNum) (rb : RegNum)
  -- Floating point (R424 to R451)
  /-- `cflts rt, ra, scale7` (R424). -/
  | cflts (rt : RegNum) (ra : RegNum) (scale : BitVec 8)
  /-- `cfltu rt, ra, scale7` (R425). -/
  | cfltu (rt : RegNum) (ra : RegNum) (scale : BitVec 8)
  /-- `csflt rt, ra, scale7` (R426). -/
  | csflt (rt : RegNum) (ra : RegNum) (scale : BitVec 8)
  /-- `cuflt rt, ra, scale7` (R427). -/
  | cuflt (rt : RegNum) (ra : RegNum) (scale : BitVec 8)
  /-- `dfa rt, ra, rb` (R428). -/
  | dfa (rt : RegNum) (ra : RegNum) (rb : RegNum)
  /-- `dfm rt, ra, rb` (R429). -/
  | dfm (rt : RegNum) (ra : RegNum) (rb : RegNum)
  /-- `dfma rt, ra, rb` (R430). -/
  | dfma (rt : RegNum) (ra : RegNum) (rb : RegNum)
  /-- `dfms rt, ra, rb` (R431). -/
  | dfms (rt : RegNum) (ra : RegNum) (rb : RegNum)
  /-- `dfnma rt, ra, rb` (R432). -/
  | dfnma (rt : RegNum) (ra : RegNum) (rb : RegNum)
  /-- `dfnms rt, ra, rb` (R433). -/
  | dfnms (rt : RegNum) (ra : RegNum) (rb : RegNum)
  /-- `dfs rt, ra, rb` (R434). -/
  | dfs (rt : RegNum) (ra : RegNum) (rb : RegNum)
  /-- `fa rt, ra, rb` (R435). -/
  | fa (rt : RegNum) (ra : RegNum) (rb : RegNum)
  /-- `fceq rt, ra, rb` (R436). -/
  | fceq (rt : RegNum) (ra : RegNum) (rb : RegNum)
  /-- `fcgt rt, ra, rb` (R437). -/
  | fcgt (rt : RegNum) (ra : RegNum) (rb : RegNum)
  /-- `fcmeq rt, ra, rb` (R438). -/
  | fcmeq (rt : RegNum) (ra : RegNum) (rb : RegNum)
  /-- `fcmgt rt, ra, rb` (R439). -/
  | fcmgt (rt : RegNum) (ra : RegNum) (rb : RegNum)
  /-- `fesd rt, ra` (R440). -/
  | fesd (rt : RegNum) (ra : RegNum)
  /-- `fi rt, ra, rb` (R441). -/
  | fi (rt : RegNum) (ra : RegNum) (rb : RegNum)
  /-- `fm rt, ra, rb` (R442). -/
  | fm (rt : RegNum) (ra : RegNum) (rb : RegNum)
  /-- `fma rt, ra, rb, rc` (R443). -/
  | fma (rt : RegNum) (ra : RegNum) (rb : RegNum) (rc : RegNum)
  /-- `fms rt, ra, rb, rc` (R444). -/
  | fms (rt : RegNum) (ra : RegNum) (rb : RegNum) (rc : RegNum)
  /-- `fnms rt, ra, rb, rc` (R445). -/
  | fnms (rt : RegNum) (ra : RegNum) (rb : RegNum) (rc : RegNum)
  /-- `frds rt, ra` (R446). -/
  | frds (rt : RegNum) (ra : RegNum)
  /-- `frest rt, ra` (R447). -/
  | frest (rt : RegNum) (ra : RegNum)
  /-- `frsqest rt, ra` (R448). -/
  | frsqest (rt : RegNum) (ra : RegNum)
  /-- `fs rt, ra, rb` (R449). -/
  | fs (rt : RegNum) (ra : RegNum) (rb : RegNum)
  /-- `fscrrd rt` (R450). -/
  | fscrrd (rt : RegNum)
  /-- `fscrwr ra or fscrwr rc, ra` (R451). -/
  | fscrwr (rc : RegNum) (ra : RegNum)
  -- Control, channel and special purpose register (R461 to R472)
  /-- `dsync` (R461). -/
  | dsync
  /-- `lnop` (R462). -/
  | lnop
  /-- `mfspr rt, spr` (R463). -/
  | mfspr (rt : RegNum) (spr : SprNum)
  /-- `mtspr spr, ra` (R464). -/
  | mtspr (spr : SprNum) (ra : RegNum)
  /-- `nop or nop rt` (R465). -/
  | nop (rt : RegNum)
  /-- `rchcnt rt, ch` (R466). -/
  | rchcnt (rt : RegNum) (ch : ChNum)
  /-- `rdch rt, ch` (R467). -/
  | rdch (rt : RegNum) (ch : ChNum)
  /-- `stop u14` (R468). -/
  | stop (u14 : BitVec 14)
  /-- `stopd ra, rb, rc` (R469). -/
  | stopd (ra : RegNum) (rb : RegNum) (rc : RegNum)
  /-- `sync` (R470). -/
  | sync
  /-- `syncc` (R471). -/
  | syncc
  /-- `wrch ch, ra` (R472). -/
  | wrch (ch : ChNum) (ra : RegNum)
deriving DecidableEq, Repr

end Sys2Proof
end

