-- ==== Sys2Proof/WellFormed.lean ====
section
/-! DEFINITION. Which instructions the assembler can produce: each immediate within its range of Table 2-6 (R107), the bits
that the instruction ignores and the encoding drops being 0 (R112 to R114, R142). -/

namespace Sys2Proof

/-- s18 without its two ignored low bits (R112, R142 c). -/
def wfS18 (s18 : BitVec 18) : Bool := s18.extractLsb' 0 2 = 0

/-- s14 without its four ignored low bits (R114, R142 b). -/
def wfS14 (s14 : BitVec 14) : Bool := s14.extractLsb' 0 4 = 0

/-- s11 without its two ignored low bits (R113, R142 d). -/
def wfS11 (s11 : BitVec 11) : Bool := s11.extractLsb' 0 2 = 0

/-- s6, in -32 to 31, carried in a 7-bit field (R109). -/
def wfS6 (s6 : BitVec 7) : Bool := -32 ≤ s6.toInt ∧ s6.toInt ≤ 31

/-- u3 where its range is enforced, 0 to 7 (`shlqbii`, R117). -/
def wfU3 (u3 : BitVec 7) : Bool := u3.toNat < 8

/-- u5, 0 to 31 (R117). -/
def wfU5 (u5 : BitVec 7) : Bool := u5.toNat < 32

/-- u6, 0 to 63 (R117). -/
def wfU6 (u6 : BitVec 7) : Bool := u6.toNat < 64

/-- scale7, 0 to 127 (R116). -/
def wfScale (scale : BitVec 8) : Bool := scale.toNat < 128

/-- Whether an instruction is one the assembler produces (R107). -/
def Instr.wf : Instr → Bool
  | .a _ _ _ => true
  | .absdb _ _ _ => true
  | .addx _ _ _ => true
  | .ah _ _ _ => true
  | .ahi _ _ _ => true
  | .ai _ _ _ => true
  | .avgb _ _ _ => true
  | .bg _ _ _ => true
  | .bgx _ _ _ => true
  | .cg _ _ _ => true
  | .cgx _ _ _ => true
  | .clz _ _ => true
  | .cntb _ _ => true
  | .mpy _ _ _ => true
  | .mpya _ _ _ _ => true
  | .mpyh _ _ _ => true
  | .mpyhh _ _ _ => true
  | .mpyhha _ _ _ => true
  | .mpyhhau _ _ _ => true
  | .mpyhhu _ _ _ => true
  | .mpyi _ _ _ => true
  | .mpys _ _ _ => true
  | .mpyu _ _ _ => true
  | .mpyui _ _ _ => true
  | .sf _ _ _ => true
  | .sfh _ _ _ => true
  | .sfhi _ _ _ => true
  | .sfi _ _ _ => true
  | .sfx _ _ _ => true
  | .sumb _ _ _ => true
  | .xsbh _ _ => true
  | .xshw _ _ => true
  | .xswd _ _ => true
  | .and _ _ _ => true
  | .andbi _ _ _ => true
  | .andc _ _ _ => true
  | .andhi _ _ _ => true
  | .andi _ _ _ => true
  | .eqv _ _ _ => true
  | .nand _ _ _ => true
  | .nor _ _ _ => true
  | .or _ _ _ => true
  | .orbi _ _ _ => true
  | .orc _ _ _ => true
  | .orhi _ _ _ => true
  | .ori _ _ _ => true
  | .orx _ _ => true
  | .selb _ _ _ _ => true
  | .xor _ _ _ => true
  | .xorbi _ _ _ => true
  | .xorhi _ _ _ => true
  | .xori _ _ _ => true
  | .cbd _ _ _ => true
  | .cbx _ _ _ => true
  | .cdd _ _ _ => true
  | .cdx _ _ _ => true
  | .chd _ _ _ => true
  | .chx _ _ _ => true
  | .cwd _ _ _ => true
  | .cwx _ _ _ => true
  | .fsm _ _ => true
  | .fsmb _ _ => true
  | .fsmbi _ _ => true
  | .fsmh _ _ => true
  | .gb _ _ => true
  | .gbb _ _ => true
  | .gbh _ _ => true
  | .il _ _ => true
  | .ila _ _ => true
  | .ilh _ _ => true
  | .ilhu _ _ => true
  | .iohl _ _ => true
  | .shufb _ _ _ _ => true
  | .rot _ _ _ => true
  | .roth _ _ _ => true
  | .rothi _ _ _ => true
  | .rothm _ _ _ => true
  | .rothmi _ _ s6 => wfS6 s6
  | .roti _ _ _ => true
  | .rotm _ _ _ => true
  | .rotma _ _ _ => true
  | .rotmah _ _ _ => true
  | .rotmahi _ _ s6 => wfS6 s6
  | .rotmai _ _ _ => true
  | .rotmi _ _ _ => true
  | .rotqbi _ _ _ => true
  | .rotqbii _ _ _ => true
  | .rotqby _ _ _ => true
  | .rotqbybi _ _ _ => true
  | .rotqbyi _ _ _ => true
  | .rotqmbi _ _ _ => true
  | .rotqmbii _ _ _ => true
  | .rotqmby _ _ _ => true
  | .rotqmbybi _ _ _ => true
  | .rotqmbyi _ _ s6 => wfS6 s6
  | .shl _ _ _ => true
  | .shlh _ _ _ => true
  | .shlhi _ _ u5 => wfU5 u5
  | .shli _ _ u6 => wfU6 u6
  | .shlqbi _ _ _ => true
  | .shlqbii _ _ u3 => wfU3 u3
  | .shlqby _ _ _ => true
  | .shlqbybi _ _ _ => true
  | .shlqbyi _ _ u5 => wfU5 u5
  | .ceq _ _ _ => true
  | .ceqb _ _ _ => true
  | .ceqbi _ _ _ => true
  | .ceqh _ _ _ => true
  | .ceqhi _ _ _ => true
  | .ceqi _ _ _ => true
  | .cgt _ _ _ => true
  | .cgtb _ _ _ => true
  | .cgtbi _ _ _ => true
  | .cgth _ _ _ => true
  | .cgthi _ _ _ => true
  | .cgti _ _ _ => true
  | .clgt _ _ _ => true
  | .clgtb _ _ _ => true
  | .clgtbi _ _ _ => true
  | .clgth _ _ _ => true
  | .clgthi _ _ _ => true
  | .clgti _ _ _ => true
  | .heq _ _ _ => true
  | .heqi _ _ _ => true
  | .hgt _ _ _ => true
  | .hgti _ _ _ => true
  | .hlgt _ _ _ => true
  | .hlgti _ _ _ => true
  | .bi _ => true
  | .bid _ => true
  | .bie _ => true
  | .bihnz _ _ => true
  | .bihnzd _ _ => true
  | .bihnze _ _ => true
  | .bihz _ _ => true
  | .bihzd _ _ => true
  | .bihze _ _ => true
  | .binz _ _ => true
  | .binzd _ _ => true
  | .binze _ _ => true
  | .bisl _ _ => true
  | .bisld _ _ => true
  | .bisle _ _ => true
  | .bisled _ _ => true
  | .bisledd _ _ => true
  | .bislede _ _ => true
  | .biz _ _ => true
  | .bizd _ _ => true
  | .bize _ _ => true
  | .br s18 => wfS18 s18
  | .bra s18 => wfS18 s18
  | .brasl _ s18 => wfS18 s18
  | .brhnz _ s18 => wfS18 s18
  | .brhz _ s18 => wfS18 s18
  | .brnz _ s18 => wfS18 s18
  | .brsl _ s18 => wfS18 s18
  | .brz _ s18 => wfS18 s18
  | .hbr s11 _ => wfS11 s11
  | .hbra s11 s18 => wfS11 s11 && wfS18 s18
  | .hbrp => true
  | .hbrr s11 s18 => wfS11 s11 && wfS18 s18
  | .iret _ => true
  | .iretd _ => true
  | .irete _ => true
  | .lqa _ s18 => wfS18 s18
  | .lqd _ s14 _ => wfS14 s14
  | .lqr _ s18 => wfS18 s18
  | .lqx _ _ _ => true
  | .stqa _ s18 => wfS18 s18
  | .stqd _ s14 _ => wfS14 s14
  | .stqr _ s18 => wfS18 s18
  | .stqx _ _ _ => true
  | .cflts _ _ scale => wfScale scale
  | .cfltu _ _ scale => wfScale scale
  | .csflt _ _ scale => wfScale scale
  | .cuflt _ _ scale => wfScale scale
  | .dfa _ _ _ => true
  | .dfm _ _ _ => true
  | .dfma _ _ _ => true
  | .dfms _ _ _ => true
  | .dfnma _ _ _ => true
  | .dfnms _ _ _ => true
  | .dfs _ _ _ => true
  | .fa _ _ _ => true
  | .fceq _ _ _ => true
  | .fcgt _ _ _ => true
  | .fcmeq _ _ _ => true
  | .fcmgt _ _ _ => true
  | .fesd _ _ => true
  | .fi _ _ _ => true
  | .fm _ _ _ => true
  | .fma _ _ _ _ => true
  | .fms _ _ _ _ => true
  | .fnms _ _ _ _ => true
  | .frds _ _ => true
  | .frest _ _ => true
  | .frsqest _ _ => true
  | .fs _ _ _ => true
  | .fscrrd _ => true
  | .fscrwr _ _ => true
  | .dsync => true
  | .lnop => true
  | .mfspr _ _ => true
  | .mtspr _ _ => true
  | .nop _ => true
  | .rchcnt _ _ => true
  | .rdch _ _ => true
  | .stop _ => true
  | .stopd _ _ _ => true
  | .sync => true
  | .syncc => true
  | .wrch _ _ => true

end Sys2Proof
end

