-- ==== Sys2Proof/Decode.lean ====
section
/-! DEFINITION. The binary annex (R140 to R142): the decoder, total on any bytes, and the encoder.  A word is 32 bits, stored
with its most significant byte first (R71, R76, R140).  The opcode is a prefix of 4, 7, 8, 9, 10 or 11 bits (R140); no two
rows of the table match one word (R141), so the six lengths are tried one after the other. -/

namespace Sys2Proof

/-- Why bytes are no instruction. -/
inductive DecodeError where
  /-- Fewer than four bytes are left. -/
  | tooShort
  /-- The word matches no row of the opcode table (R128). -/
  | illegalWord (w : Word)
  /-- An indirect branch or interrupt return with both D and E set, which has no mnemonic (R142 f). -/
  | bothInterruptBits (w : Word)
deriving DecidableEq, Repr

/-! The fields of an instruction word (R140).  The source numbers bits from the left; these are the same bits counted from
the right (R13). -/

/-- RT, and RC of the RRR format, and ROL: bits 25 to 31. -/
def rtField (w : Word) : BitVec 7 := w.extractLsb' 0 7
/-- RA, also a channel or special purpose register number: bits 18 to 24. -/
def raField (w : Word) : BitVec 7 := w.extractLsb' 7 7
/-- RB: bits 11 to 17. -/
def rbField (w : Word) : BitVec 7 := w.extractLsb' 14 7
/-- RT of the RRR format: bits 4 to 10. -/
def rrrRtField (w : Word) : BitVec 7 := w.extractLsb' 21 7
/-- I7: bits 11 to 17. -/
def i7Field (w : Word) : BitVec 7 := w.extractLsb' 14 7
/-- I8: bits 10 to 17. -/
def i8Field (w : Word) : BitVec 8 := w.extractLsb' 14 8
/-- I10: bits 8 to 17. -/
def i10Field (w : Word) : BitVec 10 := w.extractLsb' 14 10
/-- I16: bits 9 to 24. -/
def i16Field (w : Word) : BitVec 16 := w.extractLsb' 7 16
/-- I18: bits 7 to 24. -/
def i18Field (w : Word) : BitVec 18 := w.extractLsb' 7 18
/-- ROH of the LBT format: bits 7 and 8. -/
def lbtRohField (w : Word) : BitVec 2 := w.extractLsb' 23 2
/-- ROH of the LBTI format: bits 16 and 17. -/
def lbtiRohField (w : Word) : BitVec 2 := w.extractLsb' 14 2
/-- The signal of `stop`: bits 18 to 31. -/
def signalField (w : Word) : BitVec 14 := w.extractLsb' 0 14
/-- Bit 11: C of `sync`, P of `hbr` (R142 g, h). -/
def bit11 (w : Word) : Bool := w.getLsbD 20
/-- Bit 12: D, disable interrupts (R142 f). -/
def bitD (w : Word) : Bool := w.getLsbD 19
/-- Bit 13: E, enable interrupts (R142 f). -/
def bitE (w : Word) : Bool := w.getLsbD 18

/-- The plain, disabling and enabling forms of one instruction, told apart by D and E (R142 f). -/
def interruptForms (w : Word) (plain disable enable : Instr) : Except DecodeError Instr :=
  match bitD w, bitE w with
  | false, false => .ok plain
  | true, false => .ok disable
  | false, true => .ok enable
  | true, true => .error (.bothInterruptBits w)

/-- `hbr`, or `hbrp` where P is set and the offset is 0 (R126, R142 h). -/
def hintForms (w : Word) : Except DecodeError Instr :=
  if bit11 w then
    if lbtiRohField w = 0 ∧ rtField w = 0 then .ok .hbrp else .error (.illegalWord w)
  else .ok (.hbr (lbtiRohField w ++ rtField w ++ 0#2) (raField w))

/-- The rows with a 4-bit opcode, format RRR (R140, R141). -/
def decode4 (op : Nat) (w : Word) : Option Instr :=
  match op with
  | 0b1000 => some (.selb (rrrRtField w) (raField w) (rbField w) (rtField w))
  | 0b1011 => some (.shufb (rrrRtField w) (raField w) (rbField w) (rtField w))
  | 0b1100 => some (.mpya (rrrRtField w) (raField w) (rbField w) (rtField w))
  | 0b1101 => some (.fnms (rrrRtField w) (raField w) (rbField w) (rtField w))
  | 0b1110 => some (.fma (rrrRtField w) (raField w) (rbField w) (rtField w))
  | 0b1111 => some (.fms (rrrRtField w) (raField w) (rbField w) (rtField w))
  | _ => none

/-- The rows with a 7-bit opcode, format RI18 and LBT (R140, R141). -/
def decode7 (op : Nat) (w : Word) : Option Instr :=
  match op with
  | 0b0001000 => some (.hbra (lbtRohField w ++ rtField w ++ 0#2) (i16Field w ++ 0#2))
  | 0b0001001 => some (.hbrr (lbtRohField w ++ rtField w ++ 0#2) (i16Field w ++ 0#2))
  | 0b0100001 => some (.ila (rtField w) (i18Field w))
  | _ => none

/-- The rows with a 8-bit opcode, format RI10 (R140, R141). -/
def decode8 (op : Nat) (w : Word) : Option Instr :=
  match op with
  | 0b00000100 => some (.ori (rtField w) (raField w) (i10Field w))
  | 0b00000101 => some (.orhi (rtField w) (raField w) (i10Field w))
  | 0b00000110 => some (.orbi (rtField w) (raField w) (i10Field w))
  | 0b00001100 => some (.sfi (rtField w) (raField w) (i10Field w))
  | 0b00001101 => some (.sfhi (rtField w) (raField w) (i10Field w))
  | 0b00010100 => some (.andi (rtField w) (raField w) (i10Field w))
  | 0b00010101 => some (.andhi (rtField w) (raField w) (i10Field w))
  | 0b00010110 => some (.andbi (rtField w) (raField w) (i10Field w))
  | 0b00011100 => some (.ai (rtField w) (raField w) (i10Field w))
  | 0b00011101 => some (.ahi (rtField w) (raField w) (i10Field w))
  | 0b00100100 => some (.stqd (rtField w) (i10Field w ++ 0#4) (raField w))
  | 0b00110100 => some (.lqd (rtField w) (i10Field w ++ 0#4) (raField w))
  | 0b01000100 => some (.xori (rtField w) (raField w) (i10Field w))
  | 0b01000101 => some (.xorhi (rtField w) (raField w) (i10Field w))
  | 0b01000110 => some (.xorbi (rtField w) (raField w) (i10Field w))
  | 0b01001100 => some (.cgti (rtField w) (raField w) (i10Field w))
  | 0b01001101 => some (.cgthi (rtField w) (raField w) (i10Field w))
  | 0b01001110 => some (.cgtbi (rtField w) (raField w) (i10Field w))
  | 0b01001111 => some (.hgti (rtField w) (raField w) (i10Field w))
  | 0b01011100 => some (.clgti (rtField w) (raField w) (i10Field w))
  | 0b01011101 => some (.clgthi (rtField w) (raField w) (i10Field w))
  | 0b01011110 => some (.clgtbi (rtField w) (raField w) (i10Field w))
  | 0b01011111 => some (.hlgti (rtField w) (raField w) (i10Field w))
  | 0b01110100 => some (.mpyi (rtField w) (raField w) (i10Field w))
  | 0b01110101 => some (.mpyui (rtField w) (raField w) (i10Field w))
  | 0b01111100 => some (.ceqi (rtField w) (raField w) (i10Field w))
  | 0b01111101 => some (.ceqhi (rtField w) (raField w) (i10Field w))
  | 0b01111110 => some (.ceqbi (rtField w) (raField w) (i10Field w))
  | 0b01111111 => some (.heqi (rtField w) (raField w) (i10Field w))
  | _ => none

/-- The rows with a 9-bit opcode, format RI16 (R140, R141). -/
def decode9 (op : Nat) (w : Word) : Option Instr :=
  match op with
  | 0b001000000 => some (.brz (rtField w) (i16Field w ++ 0#2))
  | 0b001000001 => some (.stqa (rtField w) (i16Field w ++ 0#2))
  | 0b001000010 => some (.brnz (rtField w) (i16Field w ++ 0#2))
  | 0b001000100 => some (.brhz (rtField w) (i16Field w ++ 0#2))
  | 0b001000110 => some (.brhnz (rtField w) (i16Field w ++ 0#2))
  | 0b001000111 => some (.stqr (rtField w) (i16Field w ++ 0#2))
  | 0b001100000 => some (.bra (i16Field w ++ 0#2))
  | 0b001100001 => some (.lqa (rtField w) (i16Field w ++ 0#2))
  | 0b001100010 => some (.brasl (rtField w) (i16Field w ++ 0#2))
  | 0b001100100 => some (.br (i16Field w ++ 0#2))
  | 0b001100101 => some (.fsmbi (rtField w) (i16Field w))
  | 0b001100110 => some (.brsl (rtField w) (i16Field w ++ 0#2))
  | 0b001100111 => some (.lqr (rtField w) (i16Field w ++ 0#2))
  | 0b010000001 => some (.il (rtField w) (i16Field w))
  | 0b010000010 => some (.ilhu (rtField w) (i16Field w))
  | 0b010000011 => some (.ilh (rtField w) (i16Field w))
  | 0b011000001 => some (.iohl (rtField w) (i16Field w))
  | _ => none

/-- The rows with a 10-bit opcode, format RI8 (R140, R141). -/
def decode10 (op : Nat) (w : Word) : Option Instr :=
  match op with
  | 0b0111011000 => some (.cflts (rtField w) (raField w) (173 - i8Field w))
  | 0b0111011001 => some (.cfltu (rtField w) (raField w) (173 - i8Field w))
  | 0b0111011010 => some (.csflt (rtField w) (raField w) (155 - i8Field w))
  | 0b0111011011 => some (.cuflt (rtField w) (raField w) (155 - i8Field w))
  | _ => none

/-- The rows with an 11-bit opcode, formats RR, RI7, LBTI and STOP (R140, R141). -/
def decode11 (op : Nat) (w : Word) : Except DecodeError Instr :=
  match op with
  | 0b00000000000 => .ok (.stop (signalField w))
  | 0b00000000001 => .ok .lnop
  | 0b00000000010 => .ok (if bit11 w then .syncc else .sync)
  | 0b00000000011 => .ok .dsync
  | 0b00000001100 => .ok (.mfspr (rtField w) (raField w))
  | 0b00000001101 => .ok (.rdch (rtField w) (raField w))
  | 0b00000001111 => .ok (.rchcnt (rtField w) (raField w))
  | 0b00001000000 => .ok (.sf (rtField w) (raField w) (rbField w))
  | 0b00001000001 => .ok (.or (rtField w) (raField w) (rbField w))
  | 0b00001000010 => .ok (.bg (rtField w) (raField w) (rbField w))
  | 0b00001001000 => .ok (.sfh (rtField w) (raField w) (rbField w))
  | 0b00001001001 => .ok (.nor (rtField w) (raField w) (rbField w))
  | 0b00001010011 => .ok (.absdb (rtField w) (raField w) (rbField w))
  | 0b00001011000 => .ok (.rot (rtField w) (raField w) (rbField w))
  | 0b00001011001 => .ok (.rotm (rtField w) (raField w) (rbField w))
  | 0b00001011010 => .ok (.rotma (rtField w) (raField w) (rbField w))
  | 0b00001011011 => .ok (.shl (rtField w) (raField w) (rbField w))
  | 0b00001011100 => .ok (.roth (rtField w) (raField w) (rbField w))
  | 0b00001011101 => .ok (.rothm (rtField w) (raField w) (rbField w))
  | 0b00001011110 => .ok (.rotmah (rtField w) (raField w) (rbField w))
  | 0b00001011111 => .ok (.shlh (rtField w) (raField w) (rbField w))
  | 0b00001111000 => .ok (.roti (rtField w) (raField w) (i7Field w))
  | 0b00001111001 => .ok (.rotmi (rtField w) (raField w) (i7Field w))
  | 0b00001111010 => .ok (.rotmai (rtField w) (raField w) (i7Field w))
  | 0b00001111011 => .ok (.shli (rtField w) (raField w) (i7Field w))
  | 0b00001111100 => .ok (.rothi (rtField w) (raField w) (i7Field w))
  | 0b00001111101 => .ok (.rothmi (rtField w) (raField w) (i7Field w))
  | 0b00001111110 => .ok (.rotmahi (rtField w) (raField w) (i7Field w))
  | 0b00001111111 => .ok (.shlhi (rtField w) (raField w) (i7Field w))
  | 0b00011000000 => .ok (.a (rtField w) (raField w) (rbField w))
  | 0b00011000001 => .ok (.and (rtField w) (raField w) (rbField w))
  | 0b00011000010 => .ok (.cg (rtField w) (raField w) (rbField w))
  | 0b00011001000 => .ok (.ah (rtField w) (raField w) (rbField w))
  | 0b00011001001 => .ok (.nand (rtField w) (raField w) (rbField w))
  | 0b00011010011 => .ok (.avgb (rtField w) (raField w) (rbField w))
  | 0b00100001100 => .ok (.mtspr (raField w) (rtField w))
  | 0b00100001101 => .ok (.wrch (raField w) (rtField w))
  | 0b00100101000 => interruptForms w (.biz (rtField w) (raField w)) (.bizd (rtField w) (raField w)) (.bize (rtField w) (raField w))
  | 0b00100101001 => interruptForms w (.binz (rtField w) (raField w)) (.binzd (rtField w) (raField w)) (.binze (rtField w) (raField w))
  | 0b00100101010 => interruptForms w (.bihz (rtField w) (raField w)) (.bihzd (rtField w) (raField w)) (.bihze (rtField w) (raField w))
  | 0b00100101011 => interruptForms w (.bihnz (rtField w) (raField w)) (.bihnzd (rtField w) (raField w)) (.bihnze (rtField w) (raField w))
  | 0b00101000000 => .ok (.stopd (raField w) (rbField w) (rtField w))
  | 0b00101000100 => .ok (.stqx (rtField w) (raField w) (rbField w))
  | 0b00110101000 => interruptForms w (.bi (raField w)) (.bid (raField w)) (.bie (raField w))
  | 0b00110101001 => interruptForms w (.bisl (rtField w) (raField w)) (.bisld (rtField w) (raField w)) (.bisle (rtField w) (raField w))
  | 0b00110101010 => interruptForms w (.iret (raField w)) (.iretd (raField w)) (.irete (raField w))
  | 0b00110101011 => interruptForms w (.bisled (rtField w) (raField w)) (.bisledd (rtField w) (raField w)) (.bislede (rtField w) (raField w))
  | 0b00110101100 => hintForms w
  | 0b00110110000 => .ok (.gb (rtField w) (raField w))
  | 0b00110110001 => .ok (.gbh (rtField w) (raField w))
  | 0b00110110010 => .ok (.gbb (rtField w) (raField w))
  | 0b00110110100 => .ok (.fsm (rtField w) (raField w))
  | 0b00110110101 => .ok (.fsmh (rtField w) (raField w))
  | 0b00110110110 => .ok (.fsmb (rtField w) (raField w))
  | 0b00110111000 => .ok (.frest (rtField w) (raField w))
  | 0b00110111001 => .ok (.frsqest (rtField w) (raField w))
  | 0b00111000100 => .ok (.lqx (rtField w) (raField w) (rbField w))
  | 0b00111001100 => .ok (.rotqbybi (rtField w) (raField w) (rbField w))
  | 0b00111001101 => .ok (.rotqmbybi (rtField w) (raField w) (rbField w))
  | 0b00111001111 => .ok (.shlqbybi (rtField w) (raField w) (rbField w))
  | 0b00111010100 => .ok (.cbx (rtField w) (raField w) (rbField w))
  | 0b00111010101 => .ok (.chx (rtField w) (raField w) (rbField w))
  | 0b00111010110 => .ok (.cwx (rtField w) (raField w) (rbField w))
  | 0b00111010111 => .ok (.cdx (rtField w) (raField w) (rbField w))
  | 0b00111011000 => .ok (.rotqbi (rtField w) (raField w) (rbField w))
  | 0b00111011001 => .ok (.rotqmbi (rtField w) (raField w) (rbField w))
  | 0b00111011011 => .ok (.shlqbi (rtField w) (raField w) (rbField w))
  | 0b00111011100 => .ok (.rotqby (rtField w) (raField w) (rbField w))
  | 0b00111011101 => .ok (.rotqmby (rtField w) (raField w) (rbField w))
  | 0b00111011111 => .ok (.shlqby (rtField w) (raField w) (rbField w))
  | 0b00111110000 => .ok (.orx (rtField w) (raField w))
  | 0b00111110100 => .ok (.cbd (rtField w) (i7Field w) (raField w))
  | 0b00111110101 => .ok (.chd (rtField w) (i7Field w) (raField w))
  | 0b00111110110 => .ok (.cwd (rtField w) (i7Field w) (raField w))
  | 0b00111110111 => .ok (.cdd (rtField w) (i7Field w) (raField w))
  | 0b00111111000 => .ok (.rotqbii (rtField w) (raField w) (i7Field w))
  | 0b00111111001 => .ok (.rotqmbii (rtField w) (raField w) (i7Field w))
  | 0b00111111011 => .ok (.shlqbii (rtField w) (raField w) (i7Field w))
  | 0b00111111100 => .ok (.rotqbyi (rtField w) (raField w) (i7Field w))
  | 0b00111111101 => .ok (.rotqmbyi (rtField w) (raField w) (i7Field w))
  | 0b00111111111 => .ok (.shlqbyi (rtField w) (raField w) (i7Field w))
  | 0b01000000001 => .ok (.nop (rtField w))
  | 0b01001000000 => .ok (.cgt (rtField w) (raField w) (rbField w))
  | 0b01001000001 => .ok (.xor (rtField w) (raField w) (rbField w))
  | 0b01001001000 => .ok (.cgth (rtField w) (raField w) (rbField w))
  | 0b01001001001 => .ok (.eqv (rtField w) (raField w) (rbField w))
  | 0b01001010000 => .ok (.cgtb (rtField w) (raField w) (rbField w))
  | 0b01001010011 => .ok (.sumb (rtField w) (raField w) (rbField w))
  | 0b01001011000 => .ok (.hgt (rtField w) (raField w) (rbField w))
  | 0b01010100101 => .ok (.clz (rtField w) (raField w))
  | 0b01010100110 => .ok (.xswd (rtField w) (raField w))
  | 0b01010101110 => .ok (.xshw (rtField w) (raField w))
  | 0b01010110100 => .ok (.cntb (rtField w) (raField w))
  | 0b01010110110 => .ok (.xsbh (rtField w) (raField w))
  | 0b01011000000 => .ok (.clgt (rtField w) (raField w) (rbField w))
  | 0b01011000001 => .ok (.andc (rtField w) (raField w) (rbField w))
  | 0b01011000010 => .ok (.fcgt (rtField w) (raField w) (rbField w))
  | 0b01011000100 => .ok (.fa (rtField w) (raField w) (rbField w))
  | 0b01011000101 => .ok (.fs (rtField w) (raField w) (rbField w))
  | 0b01011000110 => .ok (.fm (rtField w) (raField w) (rbField w))
  | 0b01011001000 => .ok (.clgth (rtField w) (raField w) (rbField w))
  | 0b01011001001 => .ok (.orc (rtField w) (raField w) (rbField w))
  | 0b01011001010 => .ok (.fcmgt (rtField w) (raField w) (rbField w))
  | 0b01011001100 => .ok (.dfa (rtField w) (raField w) (rbField w))
  | 0b01011001101 => .ok (.dfs (rtField w) (raField w) (rbField w))
  | 0b01011001110 => .ok (.dfm (rtField w) (raField w) (rbField w))
  | 0b01011010000 => .ok (.clgtb (rtField w) (raField w) (rbField w))
  | 0b01011011000 => .ok (.hlgt (rtField w) (raField w) (rbField w))
  | 0b01101000000 => .ok (.addx (rtField w) (raField w) (rbField w))
  | 0b01101000001 => .ok (.sfx (rtField w) (raField w) (rbField w))
  | 0b01101000010 => .ok (.cgx (rtField w) (raField w) (rbField w))
  | 0b01101000011 => .ok (.bgx (rtField w) (raField w) (rbField w))
  | 0b01101000110 => .ok (.mpyhha (rtField w) (raField w) (rbField w))
  | 0b01101001110 => .ok (.mpyhhau (rtField w) (raField w) (rbField w))
  | 0b01101011100 => .ok (.dfma (rtField w) (raField w) (rbField w))
  | 0b01101011101 => .ok (.dfms (rtField w) (raField w) (rbField w))
  | 0b01101011110 => .ok (.dfnms (rtField w) (raField w) (rbField w))
  | 0b01101011111 => .ok (.dfnma (rtField w) (raField w) (rbField w))
  | 0b01110011000 => .ok (.fscrrd (rtField w))
  | 0b01110111000 => .ok (.fesd (rtField w) (raField w))
  | 0b01110111001 => .ok (.frds (rtField w) (raField w))
  | 0b01110111010 => .ok (.fscrwr (rtField w) (raField w))
  | 0b01111000000 => .ok (.ceq (rtField w) (raField w) (rbField w))
  | 0b01111000010 => .ok (.fceq (rtField w) (raField w) (rbField w))
  | 0b01111000100 => .ok (.mpy (rtField w) (raField w) (rbField w))
  | 0b01111000101 => .ok (.mpyh (rtField w) (raField w) (rbField w))
  | 0b01111000110 => .ok (.mpyhh (rtField w) (raField w) (rbField w))
  | 0b01111000111 => .ok (.mpys (rtField w) (raField w) (rbField w))
  | 0b01111001000 => .ok (.ceqh (rtField w) (raField w) (rbField w))
  | 0b01111001010 => .ok (.fcmeq (rtField w) (raField w) (rbField w))
  | 0b01111001100 => .ok (.mpyu (rtField w) (raField w) (rbField w))
  | 0b01111001110 => .ok (.mpyhhu (rtField w) (raField w) (rbField w))
  | 0b01111010000 => .ok (.ceqb (rtField w) (raField w) (rbField w))
  | 0b01111010100 => .ok (.fi (rtField w) (raField w) (rbField w))
  | 0b01111011000 => .ok (.heq (rtField w) (raField w) (rbField w))
  | _ => .error (.illegalWord w)

/-- The instruction of a word whose prefixes of 4, 7, 8, 9, 10 and 11 bits are given: the first length with a row decides. -/
def decodeByPrefix (p4 p7 p8 p9 p10 p11 : Nat) (w : Word) : Except DecodeError Instr :=
  match decode4 p4 w with
  | some i => .ok i
  | none =>
  match decode7 p7 w with
  | some i => .ok i
  | none =>
  match decode8 p8 w with
  | some i => .ok i
  | none =>
  match decode9 p9 w with
  | some i => .ok i
  | none =>
  match decode10 p10 w with
  | some i => .ok i
  | none => decode11 p11 w

/-- The instruction of a 32-bit word (R141); unused bits are ignored, a word that matches no row is refused (R128). -/
def decodeWord (w : Word) : Except DecodeError Instr :=
  decodeByPrefix (w.extractLsb' 28 4).toNat (w.extractLsb' 25 7).toNat (w.extractLsb' 24 8).toNat
    (w.extractLsb' 23 9).toNat (w.extractLsb' 22 10).toNat (w.extractLsb' 21 11).toNat w

/-- Four bytes as a word, the first the most significant (R71, R76). -/
def wordOfBytes (b0 b1 b2 b3 : Byte) : Word := b0 ++ b1 ++ b2 ++ b3

/-- The instruction at the head of a list of bytes, and the bytes after it (R100). -/
def decode : List Byte → Except DecodeError (Instr × List Byte)
  | b0 :: b1 :: b2 :: b3 :: rest =>
    match decodeWord (wordOfBytes b0 b1 b2 b3) with
    | .ok i => .ok (i, rest)
    | .error e => .error e
  | _ => .error .tooShort

/-- Byte `k` of a word as storage holds it, byte 0 the most significant (R71). -/
def byteOfWord (w : Word) (k : Nat) : Byte := w.extractLsb' (24 - 8 * k) 8

/-- A word as the bytes that storage holds (R71). -/
def bytesOfWord (w : Word) : List Byte := [byteOfWord w 0, byteOfWord w 1, byteOfWord w 2, byteOfWord w 3]

/-- The instruction the decoder reads from the bits of an instruction of the opcode table. -/
def decodeTableWord (nbits w : Nat) : Option Instr :=
  match decode (bytesOfWord (BitVec.ofNat 32 (w % 2 ^ nbits))) with
  | .ok (i, _) => some i
  | .error _ => none

/-! The encoder (R140 to R142).  Unused bits are written 0. -/

/-- Format RR, and RI7 with the immediate in the place of RB (R140). -/
def encRR (op : BitVec 11) (b a t : BitVec 7) : Word := BitVec.cast (by decide) (op ++ b ++ a ++ t)
/-- Format RRR (R140). -/
def encRRR (op : BitVec 4) (t b a c : BitVec 7) : Word := BitVec.cast (by decide) (op ++ t ++ b ++ a ++ c)
/-- Format RI8 (R140). -/
def encRI8 (op : BitVec 10) (i : BitVec 8) (a t : BitVec 7) : Word := BitVec.cast (by decide) (op ++ i ++ a ++ t)
/-- Format RI10 (R140). -/
def encRI10 (op : BitVec 8) (i : BitVec 10) (a t : BitVec 7) : Word := BitVec.cast (by decide) (op ++ i ++ a ++ t)
/-- Format RI16 (R140). -/
def encRI16 (op : BitVec 9) (i : BitVec 16) (t : BitVec 7) : Word := BitVec.cast (by decide) (op ++ i ++ t)
/-- Format RI18 (R140). -/
def encRI18 (op : BitVec 7) (i : BitVec 18) (t : BitVec 7) : Word := BitVec.cast (by decide) (op ++ i ++ t)
/-- Format LBT (R140). -/
def encLBT (op : BitVec 7) (roh : BitVec 2) (i : BitVec 16) (rol : BitVec 7) : Word :=
  BitVec.cast (by decide) (op ++ roh ++ i ++ rol)
/-- Format LBTI with P clear (R140, R142 h). -/
def encLBTI (op : BitVec 11) (roh : BitVec 2) (a rol : BitVec 7) : Word :=
  BitVec.cast (by decide) (op ++ 0#5 ++ roh ++ a ++ rol)
/-- Format STOP (R140, R142 i). -/
def encSTOP (op : BitVec 11) (signal : BitVec 14) : Word := BitVec.cast (by decide) (op ++ 0#7 ++ signal)

/-- s14 as I10 holds it (R142 b). -/
def i10OfS14 (s14 : BitVec 14) : BitVec 10 := s14.extractLsb' 4 10
/-- s18 as I16 holds it (R142 c). -/
def i16OfS18 (s18 : BitVec 18) : BitVec 16 := s18.extractLsb' 2 16
/-- The upper two bits of `s11 >> 2` (R142 d). -/
def rohOfS11 (s11 : BitVec 11) : BitVec 2 := s11.extractLsb' 9 2
/-- The lower seven bits of `s11 >> 2` (R142 d). -/
def rolOfS11 (s11 : BitVec 11) : BitVec 7 := s11.extractLsb' 2 7

/-- The word of an instruction (R140 to R142). -/
def encode : Instr → Word
  | .a rt ra rb => encRR 0b00011000000#11 rb ra rt
  | .absdb rt ra rb => encRR 0b00001010011#11 rb ra rt
  | .addx rt ra rb => encRR 0b01101000000#11 rb ra rt
  | .ah rt ra rb => encRR 0b00011001000#11 rb ra rt
  | .ahi rt ra s10 => encRI10 0b00011101#8 s10 ra rt
  | .ai rt ra s10 => encRI10 0b00011100#8 s10 ra rt
  | .avgb rt ra rb => encRR 0b00011010011#11 rb ra rt
  | .bg rt ra rb => encRR 0b00001000010#11 rb ra rt
  | .bgx rt ra rb => encRR 0b01101000011#11 rb ra rt
  | .cg rt ra rb => encRR 0b00011000010#11 rb ra rt
  | .cgx rt ra rb => encRR 0b01101000010#11 rb ra rt
  | .clz rt ra => encRR 0b01010100101#11 0#7 ra rt
  | .cntb rt ra => encRR 0b01010110100#11 0#7 ra rt
  | .mpy rt ra rb => encRR 0b01111000100#11 rb ra rt
  | .mpya rt ra rb rc => encRRR 0b1100#4 rt rb ra rc
  | .mpyh rt ra rb => encRR 0b01111000101#11 rb ra rt
  | .mpyhh rt ra rb => encRR 0b01111000110#11 rb ra rt
  | .mpyhha rt ra rb => encRR 0b01101000110#11 rb ra rt
  | .mpyhhau rt ra rb => encRR 0b01101001110#11 rb ra rt
  | .mpyhhu rt ra rb => encRR 0b01111001110#11 rb ra rt
  | .mpyi rt ra s10 => encRI10 0b01110100#8 s10 ra rt
  | .mpys rt ra rb => encRR 0b01111000111#11 rb ra rt
  | .mpyu rt ra rb => encRR 0b01111001100#11 rb ra rt
  | .mpyui rt ra s10 => encRI10 0b01110101#8 s10 ra rt
  | .sf rt ra rb => encRR 0b00001000000#11 rb ra rt
  | .sfh rt ra rb => encRR 0b00001001000#11 rb ra rt
  | .sfhi rt ra s10 => encRI10 0b00001101#8 s10 ra rt
  | .sfi rt ra s10 => encRI10 0b00001100#8 s10 ra rt
  | .sfx rt ra rb => encRR 0b01101000001#11 rb ra rt
  | .sumb rt ra rb => encRR 0b01001010011#11 rb ra rt
  | .xsbh rt ra => encRR 0b01010110110#11 0#7 ra rt
  | .xshw rt ra => encRR 0b01010101110#11 0#7 ra rt
  | .xswd rt ra => encRR 0b01010100110#11 0#7 ra rt
  | .and rt ra rb => encRR 0b00011000001#11 rb ra rt
  | .andbi rt ra s10 => encRI10 0b00010110#8 s10 ra rt
  | .andc rt ra rb => encRR 0b01011000001#11 rb ra rt
  | .andhi rt ra s10 => encRI10 0b00010101#8 s10 ra rt
  | .andi rt ra s10 => encRI10 0b00010100#8 s10 ra rt
  | .eqv rt ra rb => encRR 0b01001001001#11 rb ra rt
  | .nand rt ra rb => encRR 0b00011001001#11 rb ra rt
  | .nor rt ra rb => encRR 0b00001001001#11 rb ra rt
  | .or rt ra rb => encRR 0b00001000001#11 rb ra rt
  | .orbi rt ra s10 => encRI10 0b00000110#8 s10 ra rt
  | .orc rt ra rb => encRR 0b01011001001#11 rb ra rt
  | .orhi rt ra s10 => encRI10 0b00000101#8 s10 ra rt
  | .ori rt ra s10 => encRI10 0b00000100#8 s10 ra rt
  | .orx rt ra => encRR 0b00111110000#11 0#7 ra rt
  | .selb rt ra rb rc => encRRR 0b1000#4 rt rb ra rc
  | .xor rt ra rb => encRR 0b01001000001#11 rb ra rt
  | .xorbi rt ra s10 => encRI10 0b01000110#8 s10 ra rt
  | .xorhi rt ra s10 => encRI10 0b01000101#8 s10 ra rt
  | .xori rt ra s10 => encRI10 0b01000100#8 s10 ra rt
  | .cbd rt u7 ra => encRR 0b00111110100#11 u7 ra rt
  | .cbx rt ra rb => encRR 0b00111010100#11 rb ra rt
  | .cdd rt u7 ra => encRR 0b00111110111#11 u7 ra rt
  | .cdx rt ra rb => encRR 0b00111010111#11 rb ra rt
  | .chd rt u7 ra => encRR 0b00111110101#11 u7 ra rt
  | .chx rt ra rb => encRR 0b00111010101#11 rb ra rt
  | .cwd rt u7 ra => encRR 0b00111110110#11 u7 ra rt
  | .cwx rt ra rb => encRR 0b00111010110#11 rb ra rt
  | .fsm rt ra => encRR 0b00110110100#11 0#7 ra rt
  | .fsmb rt ra => encRR 0b00110110110#11 0#7 ra rt
  | .fsmbi rt u16 => encRI16 0b001100101#9 u16 rt
  | .fsmh rt ra => encRR 0b00110110101#11 0#7 ra rt
  | .gb rt ra => encRR 0b00110110000#11 0#7 ra rt
  | .gbb rt ra => encRR 0b00110110010#11 0#7 ra rt
  | .gbh rt ra => encRR 0b00110110001#11 0#7 ra rt
  | .il rt s16 => encRI16 0b010000001#9 s16 rt
  | .ila rt u18 => encRI18 0b0100001#7 u18 rt
  | .ilh rt u16 => encRI16 0b010000011#9 u16 rt
  | .ilhu rt u16 => encRI16 0b010000010#9 u16 rt
  | .iohl rt u16 => encRI16 0b011000001#9 u16 rt
  | .shufb rt ra rb rc => encRRR 0b1011#4 rt rb ra rc
  | .rot rt ra rb => encRR 0b00001011000#11 rb ra rt
  | .roth rt ra rb => encRR 0b00001011100#11 rb ra rt
  | .rothi rt ra s7 => encRR 0b00001111100#11 s7 ra rt
  | .rothm rt ra rb => encRR 0b00001011101#11 rb ra rt
  | .rothmi rt ra s6 => encRR 0b00001111101#11 s6 ra rt
  | .roti rt ra s7 => encRR 0b00001111000#11 s7 ra rt
  | .rotm rt ra rb => encRR 0b00001011001#11 rb ra rt
  | .rotma rt ra rb => encRR 0b00001011010#11 rb ra rt
  | .rotmah rt ra rb => encRR 0b00001011110#11 rb ra rt
  | .rotmahi rt ra s6 => encRR 0b00001111110#11 s6 ra rt
  | .rotmai rt ra s7 => encRR 0b00001111010#11 s7 ra rt
  | .rotmi rt ra s7 => encRR 0b00001111001#11 s7 ra rt
  | .rotqbi rt ra rb => encRR 0b00111011000#11 rb ra rt
  | .rotqbii rt ra u3 => encRR 0b00111111000#11 u3 ra rt
  | .rotqby rt ra rb => encRR 0b00111011100#11 rb ra rt
  | .rotqbybi rt ra rb => encRR 0b00111001100#11 rb ra rt
  | .rotqbyi rt ra s7 => encRR 0b00111111100#11 s7 ra rt
  | .rotqmbi rt ra rb => encRR 0b00111011001#11 rb ra rt
  | .rotqmbii rt ra s3 => encRR 0b00111111001#11 s3 ra rt
  | .rotqmby rt ra rb => encRR 0b00111011101#11 rb ra rt
  | .rotqmbybi rt ra rb => encRR 0b00111001101#11 rb ra rt
  | .rotqmbyi rt ra s6 => encRR 0b00111111101#11 s6 ra rt
  | .shl rt ra rb => encRR 0b00001011011#11 rb ra rt
  | .shlh rt ra rb => encRR 0b00001011111#11 rb ra rt
  | .shlhi rt ra u5 => encRR 0b00001111111#11 u5 ra rt
  | .shli rt ra u6 => encRR 0b00001111011#11 u6 ra rt
  | .shlqbi rt ra rb => encRR 0b00111011011#11 rb ra rt
  | .shlqbii rt ra u3 => encRR 0b00111111011#11 u3 ra rt
  | .shlqby rt ra rb => encRR 0b00111011111#11 rb ra rt
  | .shlqbybi rt ra rb => encRR 0b00111001111#11 rb ra rt
  | .shlqbyi rt ra u5 => encRR 0b00111111111#11 u5 ra rt
  | .ceq rt ra rb => encRR 0b01111000000#11 rb ra rt
  | .ceqb rt ra rb => encRR 0b01111010000#11 rb ra rt
  | .ceqbi rt ra s10 => encRI10 0b01111110#8 s10 ra rt
  | .ceqh rt ra rb => encRR 0b01111001000#11 rb ra rt
  | .ceqhi rt ra s10 => encRI10 0b01111101#8 s10 ra rt
  | .ceqi rt ra s10 => encRI10 0b01111100#8 s10 ra rt
  | .cgt rt ra rb => encRR 0b01001000000#11 rb ra rt
  | .cgtb rt ra rb => encRR 0b01001010000#11 rb ra rt
  | .cgtbi rt ra s10 => encRI10 0b01001110#8 s10 ra rt
  | .cgth rt ra rb => encRR 0b01001001000#11 rb ra rt
  | .cgthi rt ra s10 => encRI10 0b01001101#8 s10 ra rt
  | .cgti rt ra s10 => encRI10 0b01001100#8 s10 ra rt
  | .clgt rt ra rb => encRR 0b01011000000#11 rb ra rt
  | .clgtb rt ra rb => encRR 0b01011010000#11 rb ra rt
  | .clgtbi rt ra s10 => encRI10 0b01011110#8 s10 ra rt
  | .clgth rt ra rb => encRR 0b01011001000#11 rb ra rt
  | .clgthi rt ra s10 => encRI10 0b01011101#8 s10 ra rt
  | .clgti rt ra s10 => encRI10 0b01011100#8 s10 ra rt
  | .heq rt ra rb => encRR 0b01111011000#11 rb ra rt
  | .heqi rt ra s10 => encRI10 0b01111111#8 s10 ra rt
  | .hgt rt ra rb => encRR 0b01001011000#11 rb ra rt
  | .hgti rt ra s10 => encRI10 0b01001111#8 s10 ra rt
  | .hlgt rt ra rb => encRR 0b01011011000#11 rb ra rt
  | .hlgti rt ra s10 => encRI10 0b01011111#8 s10 ra rt
  | .bi ra => encRR 0b00110101000#11 0#7 ra 0#7
  | .bid ra => encRR 0b00110101000#11 0b0100000#7 ra 0#7
  | .bie ra => encRR 0b00110101000#11 0b0010000#7 ra 0#7
  | .bihnz rc ra => encRR 0b00100101011#11 0#7 ra rc
  | .bihnzd rc ra => encRR 0b00100101011#11 0b0100000#7 ra rc
  | .bihnze rc ra => encRR 0b00100101011#11 0b0010000#7 ra rc
  | .bihz rc ra => encRR 0b00100101010#11 0#7 ra rc
  | .bihzd rc ra => encRR 0b00100101010#11 0b0100000#7 ra rc
  | .bihze rc ra => encRR 0b00100101010#11 0b0010000#7 ra rc
  | .binz rc ra => encRR 0b00100101001#11 0#7 ra rc
  | .binzd rc ra => encRR 0b00100101001#11 0b0100000#7 ra rc
  | .binze rc ra => encRR 0b00100101001#11 0b0010000#7 ra rc
  | .bisl rt ra => encRR 0b00110101001#11 0#7 ra rt
  | .bisld rt ra => encRR 0b00110101001#11 0b0100000#7 ra rt
  | .bisle rt ra => encRR 0b00110101001#11 0b0010000#7 ra rt
  | .bisled rt ra => encRR 0b00110101011#11 0#7 ra rt
  | .bisledd rt ra => encRR 0b00110101011#11 0b0100000#7 ra rt
  | .bislede rt ra => encRR 0b00110101011#11 0b0010000#7 ra rt
  | .biz rc ra => encRR 0b00100101000#11 0#7 ra rc
  | .bizd rc ra => encRR 0b00100101000#11 0b0100000#7 ra rc
  | .bize rc ra => encRR 0b00100101000#11 0b0010000#7 ra rc
  | .br s18 => encRI16 0b001100100#9 (i16OfS18 s18) 0#7
  | .bra s18 => encRI16 0b001100000#9 (i16OfS18 s18) 0#7
  | .brasl rt s18 => encRI16 0b001100010#9 (i16OfS18 s18) rt
  | .brhnz rc s18 => encRI16 0b001000110#9 (i16OfS18 s18) rc
  | .brhz rc s18 => encRI16 0b001000100#9 (i16OfS18 s18) rc
  | .brnz rc s18 => encRI16 0b001000010#9 (i16OfS18 s18) rc
  | .brsl rt s18 => encRI16 0b001100110#9 (i16OfS18 s18) rt
  | .brz rc s18 => encRI16 0b001000000#9 (i16OfS18 s18) rc
  | .hbr s11 ra => encLBTI 0b00110101100#11 (rohOfS11 s11) ra (rolOfS11 s11)
  | .hbra s11 s18 => encLBT 0b0001000#7 (rohOfS11 s11) (i16OfS18 s18) (rolOfS11 s11)
  | .hbrp => encRR 0b00110101100#11 0b1000000#7 0#7 0#7
  | .hbrr s11 s18 => encLBT 0b0001001#7 (rohOfS11 s11) (i16OfS18 s18) (rolOfS11 s11)
  | .iret ra => encRR 0b00110101010#11 0#7 ra 0#7
  | .iretd ra => encRR 0b00110101010#11 0b0100000#7 ra 0#7
  | .irete ra => encRR 0b00110101010#11 0b0010000#7 ra 0#7
  | .lqa rt s18 => encRI16 0b001100001#9 (i16OfS18 s18) rt
  | .lqd rt s14 ra => encRI10 0b00110100#8 (i10OfS14 s14) ra rt
  | .lqr rt s18 => encRI16 0b001100111#9 (i16OfS18 s18) rt
  | .lqx rt ra rb => encRR 0b00111000100#11 rb ra rt
  | .stqa rc s18 => encRI16 0b001000001#9 (i16OfS18 s18) rc
  | .stqd rc s14 ra => encRI10 0b00100100#8 (i10OfS14 s14) ra rc
  | .stqr rc s18 => encRI16 0b001000111#9 (i16OfS18 s18) rc
  | .stqx rc ra rb => encRR 0b00101000100#11 rb ra rc
  | .cflts rt ra scale => encRI8 0b0111011000#10 (173 - scale) ra rt
  | .cfltu rt ra scale => encRI8 0b0111011001#10 (173 - scale) ra rt
  | .csflt rt ra scale => encRI8 0b0111011010#10 (155 - scale) ra rt
  | .cuflt rt ra scale => encRI8 0b0111011011#10 (155 - scale) ra rt
  | .dfa rt ra rb => encRR 0b01011001100#11 rb ra rt
  | .dfm rt ra rb => encRR 0b01011001110#11 rb ra rt
  | .dfma rt ra rb => encRR 0b01101011100#11 rb ra rt
  | .dfms rt ra rb => encRR 0b01101011101#11 rb ra rt
  | .dfnma rt ra rb => encRR 0b01101011111#11 rb ra rt
  | .dfnms rt ra rb => encRR 0b01101011110#11 rb ra rt
  | .dfs rt ra rb => encRR 0b01011001101#11 rb ra rt
  | .fa rt ra rb => encRR 0b01011000100#11 rb ra rt
  | .fceq rt ra rb => encRR 0b01111000010#11 rb ra rt
  | .fcgt rt ra rb => encRR 0b01011000010#11 rb ra rt
  | .fcmeq rt ra rb => encRR 0b01111001010#11 rb ra rt
  | .fcmgt rt ra rb => encRR 0b01011001010#11 rb ra rt
  | .fesd rt ra => encRR 0b01110111000#11 0#7 ra rt
  | .fi rt ra rb => encRR 0b01111010100#11 rb ra rt
  | .fm rt ra rb => encRR 0b01011000110#11 rb ra rt
  | .fma rt ra rb rc => encRRR 0b1110#4 rt rb ra rc
  | .fms rt ra rb rc => encRRR 0b1111#4 rt rb ra rc
  | .fnms rt ra rb rc => encRRR 0b1101#4 rt rb ra rc
  | .frds rt ra => encRR 0b01110111001#11 0#7 ra rt
  | .frest rt ra => encRR 0b00110111000#11 0#7 ra rt
  | .frsqest rt ra => encRR 0b00110111001#11 0#7 ra rt
  | .fs rt ra rb => encRR 0b01011000101#11 rb ra rt
  | .fscrrd rt => encRR 0b01110011000#11 0#7 0#7 rt
  | .fscrwr rc ra => encRR 0b01110111010#11 0#7 ra rc
  | .dsync => encRR 0b00000000011#11 0#7 0#7 0#7
  | .lnop => encRR 0b00000000001#11 0#7 0#7 0#7
  | .mfspr rt spr => encRR 0b00000001100#11 0#7 spr rt
  | .mtspr spr ra => encRR 0b00100001100#11 0#7 spr ra
  | .nop rt => encRR 0b01000000001#11 0#7 0#7 rt
  | .rchcnt rt ch => encRR 0b00000001111#11 0#7 ch rt
  | .rdch rt ch => encRR 0b00000001101#11 0#7 ch rt
  | .stop u14 => encSTOP 0b00000000000#11 u14
  | .stopd ra rb rc => encRR 0b00101000000#11 rb ra rc
  | .sync => encRR 0b00000000010#11 0#7 0#7 0#7
  | .syncc => encRR 0b00000000010#11 0b1000000#7 0#7 0#7
  | .wrch ch ra => encRR 0b00100001101#11 0#7 ch ra

/-- The bytes of an instruction (R71, R100). -/
def encodeBytes (i : Instr) : List Byte := bytesOfWord (encode i)

end Sys2Proof
end

