-- ==== Sys2Proof/Config.lean ====
section
/-! DEFINITION. The implementation parameters (R7, R8).  A parameter with a default of the spec is a definition with that
value; one without a default, and every value the spec leaves open, is a constant without a body, so that nothing can be
proved of its value. -/

namespace Sys2Proof.Config

/-- `LS_SIZE`, the size of local storage in bytes (R8, R70).  DESIGN CHOICE: the default of R8 (log 3). -/
def lsSize : Nat := 262144

/-- `INT_VECTOR`, where an interrupt starts executing (R8, R510).  DESIGN CHOICE: the default of R8 (log 8). -/
def intVector : Word := 0

/-- `ENTRY`, the address of the first instruction (R8, R54).  DESIGN CHOICE: the spec gives no default (log 5). -/
def entry : Word := 0

/-- `IE` when the program starts (R8, R54).  The default of R8 (log 5). -/
def launchIe : Bool := false

/-- `STOP_NPC_OFFSET` (R8, R468).  DESIGN CHOICE: the default of R8 (log 9). -/
def stopNpcOffset : Nat := 4

/-- `STOPD_SIGNAL`, fixed by the source (R7, R469). -/
def stopdSignal : BitVec 14 := 0x3FFF

/-- `FPSCR_WRITE_MASK`, the bits that `fscrwr` changes (R8, R451).  DESIGN CHOICE: the default of R8 (log 14). -/
def fpscrWriteMask : Quad := BitVec.allOnes 128

/-- The two values of `ROTQMBYBI_FIELD` (R8, R312). -/
inductive RotqmbybiField where
  /-- Bits 24 to 28 of the source's numbering, five bits. -/
  | bits24to28
  /-- Bits 25 to 28 of the source's numbering, four bits. -/
  | bits25to28
deriving DecidableEq, Repr

/-- `ROTQMBYBI_FIELD` (R8, R312).  DESIGN CHOICE: the default of R8 (log 10). -/
def rotqmbybiField : RotqmbybiField := .bits24to28

/-- The two values of `MPYS_HALVES` (R8, R224). -/
inductive Halves where
  /-- The upper 16 bits of each word, as the source says. -/
  | upper
  /-- The lower 16 bits of each word. -/
  | lower
deriving DecidableEq, Repr, Inhabited

/-- `MPYS_HALVES`, which halves `mpys` multiplies: a parameter without a default (R8, R224; log 11). -/
opaque mpysHalves : Halves

/-- `QUADWORD_ATOMIC`, whether other agents reach a quadword of local storage in one indivisible access (R8, R83).  DESIGN
CHOICE: the default of R8 (log 28). -/
def quadwordAtomic : Bool := false

/-! Channels and events. -/

/-- How many entries the inbound mailbox holds, and how many commands the MFC queue: the depths of `CHANNEL_TABLE` (R46;
DESIGN CHOICE: the default, log 17). -/
def inMboxDepth : Nat := 4

/-- See `inMboxDepth`. -/
def mfcQueueDepth : Nat := 16

/-- What a command of channel 21 does to local storage (R82). -/
inductive DmaKind where
  /-- It moves data into local storage. -/
  | toStorage
  /-- It moves data out of local storage. -/
  | fromStorage
  /-- It moves no data. -/
  | noTransfer
deriving DecidableEq, Repr, Inhabited

/-- A free value: what the command in the word written to channel 21 does; the command encodings are not in the source (R52;
log 28). -/
opaque dmaKind (cmd : Word) : DmaKind

/-- A free value: the bit of the tag status that speaks for a tag identifier; the tag rules are not in the source (R52;
log 28). -/
opaque tagBit (tagId : Word) : Fin 32

/-- The events the hardware is said to have (R505).  Their bit positions are the parameter `EVENTS`. -/
inductive Event where
  | msSync | privilegedAttention | lockLineLost | signal1 | signal2 | outMbox | outIntrMbox | decrementer
  | inMbox | commandQueue | listStall | tagStatus
deriving DecidableEq, Repr

/-- `EVENTS`: the bit of an event in the three event words, or none where the machine has no such event; a parameter without
a default (R8, R505; log 20). -/
opaque eventBit : Event → Option (Fin 32)

/-- A free value: the count of a channel that nothing in the state fixes, at draw `n` (R43, R460; log 18). -/
opaque channelCount (ch : ChNum) (n : Nat) : Word

/-- A free value: what channel 8 reads at draw `n` when `written` is the count last written (R49, R515; log 19). -/
opaque decrementerRead (written : Word) (n : Nat) : Word

/-- A free value: the execution status above its least significant bit, at draw `n` (R51; log 19). -/
opaque machineStatus (n : Nat) : BitVec 31

/-! `NUMERICS`: the functions of R420, uninterpreted, each with the current FPSCR as its first argument (log 12). -/

/-- `FADD32`, single-precision a + b. -/
opaque fadd32 (fpscr : Quad) (a b : Word) : Word
/-- `FSUB32`, single-precision a - b. -/
opaque fsub32 (fpscr : Quad) (a b : Word) : Word
/-- `FMUL32`, single-precision a * b. -/
opaque fmul32 (fpscr : Quad) (a b : Word) : Word
/-- `FMA32`, a * b + c. -/
opaque fma32 (fpscr : Quad) (a b c : Word) : Word
/-- `FMS32`, a * b - c. -/
opaque fms32 (fpscr : Quad) (a b c : Word) : Word
/-- `FNMS32`, c - a * b. -/
opaque fnms32 (fpscr : Quad) (a b c : Word) : Word
/-- `FCEQ32`, a = b as single-precision values. -/
opaque fceq32 (fpscr : Quad) (a b : Word) : Bool
/-- `FCGT32`, a > b as single-precision values. -/
opaque fcgt32 (fpscr : Quad) (a b : Word) : Bool
/-- The absolute value of a single-precision number; where the sign lies is not in the source (R438). -/
opaque fabs32 (a : Word) : Word
/-- `FREST32`, base and step for the reciprocal. -/
opaque frest32 (fpscr : Quad) (a : Word) : Word
/-- `FRSQEST32`, base and step for the reciprocal of the square root. -/
opaque frsqest32 (fpscr : Quad) (a : Word) : Word
/-- `FI32`, the interpolation of a with the base and step in b. -/
opaque fi32 (fpscr : Quad) (a b : Word) : Word
/-- The integer that `CFLTS` and `CFLTU` clamp: the single-precision a times 2 to the scale, rounded as the source does not
say (R424, R425). -/
opaque floatToInt (fpscr : Quad) (a : Word) (scale : BitVec 8) : Int
/-- `CSFLT`, the single-precision number of a signed integer times 2 to the minus scale. -/
opaque csflt32 (fpscr : Quad) (n : Int) (scale : BitVec 8) : Word
/-- `CUFLT`, the single-precision number of an unsigned integer times 2 to the minus scale. -/
opaque cuflt32 (fpscr : Quad) (n : Nat) (scale : BitVec 8) : Word
/-- `FESD`, a single-precision number as a double-precision one. -/
opaque fesd64 (fpscr : Quad) (a : Word) : DWord
/-- `FRDS`, a double-precision number rounded to single precision. -/
opaque frds32 (fpscr : Quad) (d : DWord) : Word
/-- `DFADD`, double-precision a + b. -/
opaque dfadd (fpscr : Quad) (a b : DWord) : DWord
/-- `DFSUB`, double-precision a - b. -/
opaque dfsub (fpscr : Quad) (a b : DWord) : DWord
/-- `DFMUL`, double-precision a * b. -/
opaque dfmul (fpscr : Quad) (a b : DWord) : DWord
/-- `DFMA`, a * b + t. -/
opaque dfma (fpscr : Quad) (a b t : DWord) : DWord
/-- `DFMS`, a * b - t. -/
opaque dfms (fpscr : Quad) (a b t : DWord) : DWord
/-- `DFNMS`, t - a * b. -/
opaque dfnms (fpscr : Quad) (a b t : DWord) : DWord
/-- `DFNMA`, -(a * b + t). -/
opaque dfnma (fpscr : Quad) (a b t : DWord) : DWord

/-- What a value of `FPSCR_UPDATE` may be (R8, R421). -/
inductive FpscrRule where
  /-- Floating-point instructions leave FPSCR as it is. -/
  | identity
  /-- They record something in it that the source does not describe. -/
  | recorded
deriving DecidableEq, Repr

/-- Which of the two `FPSCR_UPDATE` is (R8, R421).  DESIGN CHOICE: the default of R8 (log 13). -/
def fpscrRule : FpscrRule := .identity

/-- FPSCR after a floating-point instruction where something is recorded: free (R421; log 13). -/
opaque fpscrRecorded (old : Quad) (instruction : Instr) (operands : List Quad) (result : Quad) : Quad

/-- `FPSCR_UPDATE`: FPSCR after a floating-point instruction, from FPSCR before it, the instruction, its operands and its
result (R421; log 13). -/
def fpscrUpdate (old : Quad) (instruction : Instr) (operands : List Quad) (result : Quad) : Quad :=
  match fpscrRule with
  | .identity => old
  | .recorded => fpscrRecorded old instruction operands result

end Sys2Proof.Config
end

