-- ==== Sys2Proof/Machine/State.lean ====
section
/-! DEFINITION. The state of the SPU (10_state.md), the reasons a step can stop, and the state after reset.  Plain data: no
field is a function.  Every piece of state the spec names has a field; the fields the model adds are marked MODEL. -/

namespace Sys2Proof.Machine

/-- The run state (R42, R500, R501). -/
inductive RunState where
  /-- Instructions execute. -/
  | running
  /-- `stop` or `stopd` has stopped the SPU with this signal (R500). -/
  | stopped (signal : BitVec 14)
  /-- A conditional halt has halted the SPU (R501). -/
  | halted
deriving DecidableEq, Repr

/-- A command in the MFC queue: the word written to channel 21 and the five parameters at that moment (R46, R52). -/
structure MfcCommand where
  /-- The word written to channel 21. -/
  cmd : Word
  /-- Channel 16, local memory address. -/
  lsa : Word
  /-- Channel 17, effective address, high order. -/
  eah : Word
  /-- Channel 18, effective address, low order. -/
  eal : Word
  /-- Channel 19, transfer size. -/
  size : Word
  /-- Channel 20, tag identifier. -/
  tagId : Word
deriving DecidableEq, Repr

/-- A command whose completion the program has not yet observed, with the bytes it has moved (R82). -/
structure Transfer where
  /-- The command. -/
  command : MfcCommand
  /-- The numbers of the bytes already moved, counted from the command's local memory address. -/
  moved : List Nat
deriving DecidableEq, Repr

/-- The MFC state behind channels 9, 12 and 16 to 27 (R52). -/
structure Mfc where
  /-- Channel 16, local memory address parameter. -/
  lsa : Word
  /-- Channel 17, effective address parameter, high order. -/
  eah : Word
  /-- Channel 18, effective address parameter, low order. -/
  eal : Word
  /-- Channel 19, transfer size parameter. -/
  size : Word
  /-- Channel 20, tag identifier parameter. -/
  tagId : Word
  /-- The command queue of channel 21, oldest first. -/
  queue : List MfcCommand
  /-- The commands whose completion the program has not observed through channel 24, oldest first (R82). -/
  transfers : List Transfer
  /-- Channels 22 and 12, the tag mask. -/
  tagMask : Word
  /-- Channel 23, the outstanding tag-status update request. -/
  tagUpdate : Option Word
  /-- Channel 24, the tag status that waits to be read, before the mask is applied. -/
  tagStat : Option Word
  /-- Channel 25, the list stall-and-notify status that waits to be read. -/
  listStall : Option Word
  /-- Channel 26, the last list stall-and-notify acknowledge. -/
  listStallAck : Word
  /-- Channel 27, the atomic-command status that waits to be read. -/
  atomicStat : Option Word
  /-- Channel 9, the outstanding multisource synchronization request. -/
  msSyncReq : Option Word
deriving DecidableEq, Repr

/-- What an agent outside the instruction stream does between two instructions (R43 to R52, R82, R505, R509).  DESIGN CHOICE:
no action stops a running SPU, or starts a stopped one, from the PPU side: R517 (c) names both and gives neither an effect
(log 24). -/
inductive EnvAction where
  /-- Nothing: the SPU executes one instruction. -/
  | quiet
  /-- The condition of an event occurs (R507). -/
  | raiseEvent (e : Config.Event)
  /-- A word enters the inbound mailbox (R50). -/
  | mailIn (w : Word)
  /-- Signal-notification register 1 takes a value (R50). -/
  | signal1 (w : Word)
  /-- Signal-notification register 2 takes a value (R50). -/
  | signal2 (w : Word)
  /-- The other side reads the outbound mailbox (R50). -/
  | takeOutMbox
  /-- The other side reads the outbound interrupt mailbox (R50). -/
  | takeOutIntrMbox
  /-- The MFC answers a tag-status update request (R52). -/
  | tagStatus (w : Word)
  /-- A DMA list command stalls (R52). -/
  | listStall (w : Word)
  /-- An atomic command completes (R52). -/
  | atomicStatus (w : Word)
  /-- A multisource synchronization completes (R87). -/
  | msSyncDone
  /-- The `n`th command leaves the MFC queue (R52). -/
  | dmaDone (n : Nat)
  /-- The `n`th transfer moves its byte `k`, with what else the same access takes in; `bytes` are what it stores where it moves
  data into local storage (R82 a, R83). -/
  | dmaMove (n k : Nat) (bytes : List Byte)
  /-- The PPU side, or the DMA of another SPU, writes local storage at `addr` in one access (R82 b, R83, R517 b). -/
  | agentWrite (addr : Nat) (bytes : List Byte)
  /-- A store to the quadword at `addr` becomes visible to other agents (R53 a). -/
  | storeDone (addr : Nat)
  /-- The SPU takes its interrupt here if it can (R509). -/
  | interrupt
deriving DecidableEq, Repr

/-- Why the model stops with a fault. -/
inductive Fault where
  /-- The word fetched is no instruction (R76, R128, R502).  Raised by the fetch.  Safe: the hardware may go on. -/
  | illegalInstruction (w : Word)
  /-- The word at this address was stored to since the last `sync`, so old or new bytes may be fetched (R80, R502).
  Raised by the fetch.  Safe: the hardware goes on with one of the two. -/
  | staleFetch (pc : Word)
deriving DecidableEq, Repr

/-- Why the model refuses to go on. -/
inductive Refusal where
  /-- The instruction with this mnemonic has no meaning yet.  Raised by the dispatch.  Safe. -/
  | notModelled (mnemonic : String)
  /-- An indirect branch or interrupt return with D and E both set, which has no mnemonic (R142 f, R502).  Raised by the
  fetch.  Safe. -/
  | bothInterruptBits (w : Word)
  /-- `rdch` of a channel that cannot be read or has no function (R460 a).  Raised by `rdch`.  Safe. -/
  | channelNotReadable (ch : ChNum)
  /-- `wrch` to a channel that cannot be written or has no function (R460 a).  Raised by `wrch`.  Safe. -/
  | channelNotWritable (ch : ChNum)
  /-- `mfspr` or `mtspr` of a number outside `SPR_SET` (R460 b).  Raised by `mfspr` and `mtspr`.  Safe. -/
  | sprAbsent (spr : SprNum)
deriving DecidableEq, Repr

/-- Local storage as address and byte pairs (R70): the bytes that differ from what an unlisted address reads as. -/
abbrev Memory := List Host.Cell

/-- The state of the SPU. -/
structure State where
  /-- x[0] to x[127] (R30). -/
  gpr : Vector Quad 128
  /-- The program counter (R36, R37). -/
  pc : Word
  /-- IE, the interrupt-enable bit (R56). -/
  ie : Bool
  /-- FPSCR, opaque (R40). -/
  fpscr : Quad
  /-- SRR0 (R41). -/
  srr0 : Word
  /-- The SPU NPC register (R42).  DESIGN CHOICE: 32 bits wide; R42 has no width (log 36). -/
  npc : Word
  /-- The stop value of the SPU status register (R42).  DESIGN CHOICE: of that register only these 14 bits; R42 has neither its
width nor its other bits (log 36). -/
  stopCode : BitVec 14
  /-- The run state (R42). -/
  run : RunState
  /-- The special purpose registers that exist, `SPR_SET`, with their contents (R47). -/
  spr : List (SprNum × Word)
  /-- Local storage: the bytes that differ from what an unlisted address reads as, addresses strictly rising (R70). -/
  mem : Memory
  /-- The quadwords whose last store other agents may not see yet (R53 a). -/
  pendingStores : List Nat
  /-- The instruction words stored to since the last `sync` (R80). -/
  unsynced : List Nat
  /-- The event status (R48, R507). -/
  eventPending : Word
  /-- The event mask (R48, R506). -/
  eventMask : Word
  /-- The decrementer count last written (R49). -/
  decrementer : Word
  /-- Signal notification 1, where one waits (R50). -/
  sigNotify1 : Option Word
  /-- Signal notification 2, where one waits (R50). -/
  sigNotify2 : Option Word
  /-- The inbound mailbox, oldest entry first (R50). -/
  inMbox : List Word
  /-- The outbound mailbox (R50). -/
  outMbox : Option Word
  /-- The outbound interrupt mailbox (R50). -/
  outIntrMbox : Option Word
  /-- The MFC state (R52). -/
  mfc : Mfc
  /-- MODEL: how many interrupts the SPU has sent to the PPU (log 35). -/
  ppuInterrupts : Nat
  /-- MODEL: what outside agents do next, oldest first (log 21). -/
  env : List EnvAction
  /-- MODEL: how many free values have been drawn (log 34). -/
  draws : Nat
deriving DecidableEq, Repr

/-- The MFC state at reset: the source gives no value (R54; DESIGN CHOICE, log 4). -/
def Mfc.reset : Mfc where
  lsa := 0
  eah := 0
  eal := 0
  size := 0
  tagId := 0
  queue := []
  transfers := []
  tagMask := 0
  tagUpdate := none
  tagStat := none
  listStall := none
  listStallAck := 0
  atomicStat := none
  msSyncReq := none

/-- The machine right after reset: the launch state (R54, R560).  What R54 leaves unspecified is 0 or empty (DESIGN CHOICE,
log 4, log 6, log 16). -/
def State.reset : State where
  gpr := Vector.replicate 128 0
  pc := Config.entry
  ie := Config.launchIe
  fpscr := 0
  srr0 := 0
  npc := 0
  stopCode := 0
  run := .running
  spr := []
  mem := []
  pendingStores := []
  unsynced := []
  eventPending := 0
  eventMask := 0
  decrementer := 0
  sigNotify1 := none
  sigNotify2 := none
  inMbox := []
  outMbox := none
  outIntrMbox := none
  mfc := Mfc.reset
  ppuInterrupts := 0
  env := []
  draws := 0

end Sys2Proof.Machine
end

