-- ==== Sys2Proof/Machine/Operands.lean ====
section
/-! DEFINITION. The views of a 128-bit value as elements (R14), the element-wise operations over them (R201), scalars (R33),
and the immediates at the width an instruction uses (R107 to R121). -/

namespace Sys2Proof.Machine

/-! Elements (R14).  Element 0 is the most significant. -/

/-- Byte element i (R14). -/
def byteAt (q : Quad) (i : Nat) : Byte := q.extractLsb' (120 - 8 * i) 8
/-- Halfword element i (R14). -/
def halfAt (q : Quad) (i : Nat) : Half := q.extractLsb' (112 - 16 * i) 16
/-- Word element i (R14). -/
def wordAt (q : Quad) (i : Nat) : Word := q.extractLsb' (96 - 32 * i) 32
/-- Doubleword element i (R14). -/
def dwordAt (q : Quad) (i : Nat) : DWord := q.extractLsb' (64 - 64 * i) 64

/-- The value whose doubleword element i is `f i` (R14). -/
def ofDwords (f : Nat → DWord) : Quad := f 0 ++ f 1
/-- The value whose word element i is `f i` (R14). -/
def ofWords (f : Nat → Word) : Quad := ofDwords fun i => f (2 * i) ++ f (2 * i + 1)
/-- The value whose halfword element i is `f i` (R14). -/
def ofHalfs (f : Nat → Half) : Quad := ofWords fun i => f (2 * i) ++ f (2 * i + 1)
/-- The value whose byte element i is `f i` (R14). -/
def ofBytes (f : Nat → Byte) : Quad := ofHalfs fun i => f (2 * i) ++ f (2 * i + 1)

/-! Element-wise operations: element i of the result from element i of each source (R201). -/

/-- A function of one byte, on every byte element. -/
def bytes1 (f : Byte → Byte) (a : Quad) : Quad := ofBytes fun i => f (byteAt a i)
/-- A function of two bytes, on corresponding byte elements. -/
def bytes2 (f : Byte → Byte → Byte) (a b : Quad) : Quad := ofBytes fun i => f (byteAt a i) (byteAt b i)
/-- A function of one halfword, on every halfword element. -/
def halfs1 (f : Half → Half) (a : Quad) : Quad := ofHalfs fun i => f (halfAt a i)
/-- A function of two halfwords, on corresponding halfword elements. -/
def halfs2 (f : Half → Half → Half) (a b : Quad) : Quad := ofHalfs fun i => f (halfAt a i) (halfAt b i)
/-- A function of one word, on every word element. -/
def words1 (f : Word → Word) (a : Quad) : Quad := ofWords fun i => f (wordAt a i)
/-- A function of two words, on corresponding word elements. -/
def words2 (f : Word → Word → Word) (a b : Quad) : Quad := ofWords fun i => f (wordAt a i) (wordAt b i)
/-- A function of three words, on corresponding word elements. -/
def words3 (f : Word → Word → Word → Word) (a b c : Quad) : Quad :=
  ofWords fun i => f (wordAt a i) (wordAt b i) (wordAt c i)
/-- A function of one doubleword, on every doubleword element. -/
def dwords1 (f : DWord → DWord) (a : Quad) : Quad := ofDwords fun i => f (dwordAt a i)
/-- A function of two doublewords, on corresponding doubleword elements. -/
def dwords2 (f : DWord → DWord → DWord) (a b : Quad) : Quad := ofDwords fun i => f (dwordAt a i) (dwordAt b i)
/-- A function of three doublewords, on corresponding doubleword elements. -/
def dwords3 (f : DWord → DWord → DWord → DWord) (a b c : Quad) : Quad :=
  ofDwords fun i => f (dwordAt a i) (dwordAt b i) (dwordAt c i)

/-! Scalars (R33). -/

/-- The scalar a register supplies: word element 0 (R33). -/
def scalar (q : Quad) : Word := wordAt q 0
/-- A scalar as a register value: word element 0, the other words 0 (R361, R463, R466, R467). -/
def inWord0 (w : Word) : Quad := ofWords fun i => if i = 0 then w else 0
/-- The low halfword of a word. -/
def lowHalf (w : Word) : Half := w.extractLsb' 0 16
/-- The high halfword of a word. -/
def highHalf (w : Word) : Half := w.extractLsb' 16 16
/-- Bits `lo + width - 1` down to `lo` of a word, as a number (R13). -/
def bitField (w : Word) (lo width : Nat) : Nat := w.toNat / 2 ^ lo % 2 ^ width

/-! Immediates (R107 to R121). -/

/-- s10 sign-extended to a word (R111). -/
def s10Word (s10 : BitVec 10) : Word := s10.signExtend 32
/-- s10 sign-extended to a halfword (R111). -/
def s10Half (s10 : BitVec 10) : Half := s10.signExtend 16
/-- The low 8 bits of s10 (R111). -/
def s10Byte (s10 : BitVec 10) : Byte := s10.extractLsb' 0 8
/-- s14 without its four ignored low bits, sign-extended (R114, R403). -/
def s14Word (s14 : BitVec 14) : Word := (s14 &&& ~~~15#14).signExtend 32
/-- s18 without its two ignored low bits, sign-extended (R112, R385). -/
def s18Word (s18 : BitVec 18) : Word := (s18 &&& ~~~3#18).signExtend 32
/-- u7 zero-extended (R117, R264). -/
def u7Word (u7 : BitVec 7) : Word := u7.setWidth 32
/-- u18 zero-extended (R121). -/
def u18Word (u18 : BitVec 18) : Word := u18.setWidth 32
/-- u16 zero-extended (R120, R283). -/
def u16Word (u16 : BitVec 16) : Word := u16.setWidth 32
/-- s16 sign-extended (R115). -/
def s16Word (s16 : BitVec 16) : Word := s16.signExtend 32
/-- An immediate of the 7-bit field as the count its low bits give, `width` of them (R108 to R110, R117). -/
def immCount (i : BitVec 7) (width : Nat) : Nat := i.toNat % 2 ^ width

end Sys2Proof.Machine
end

