-- ==== Sys2Proof/Machine/Flags.lean ====
section
/-! DEFINITION. The SPU has no flags (R39): carries, borrows and comparison results are values in general registers.  These
are the computations of those values. -/

namespace Sys2Proof.Machine

/-- The carry or borrow bit an extended instruction takes in: the least significant bit of the old rt word (R202). -/
def carryIn (t : Word) : Nat := t.toNat % 2

/-- The borrow that comes in: 1 where the least significant bit of the old rt word is 0 (R202, R231). -/
def borrowIn (t : Word) : Nat := 1 - carryIn t

/-- The carry out of a 32-bit sum: 1 or 0 (R202, R212). -/
def carryOut (sum : Nat) : Word := BitVec.ofNat 32 (sum / 2 ^ 32)

/-- The value a borrow generate stores for the difference `d`: 0 where a borrow occurs, 1 where none does (R202, R210). -/
def noBorrow (d : Int) : Word := if d < 0 then 0 else 1

/-- A comparison result in a word element: all ones or 0 (R330). -/
def maskWord (holds : Bool) : Word := if holds then BitVec.allOnes 32 else 0
/-- A comparison result in a halfword element: all ones or 0 (R330). -/
def maskHalf (holds : Bool) : Half := if holds then BitVec.allOnes 16 else 0
/-- A comparison result in a byte element: all ones or 0 (R330). -/
def maskByte (holds : Bool) : Byte := if holds then BitVec.allOnes 8 else 0

/-- Greater than, as two's-complement integers (R330). -/
def signedGt {n : Nat} (a b : BitVec n) : Bool := b.toInt < a.toInt
/-- Greater than, as unsigned integers (R330). -/
def unsignedGt {n : Nat} (a b : BitVec n) : Bool := b.toNat < a.toNat

end Sys2Proof.Machine
end

