-- ==== Sys2Proof/Machine/Ops.lean ====
section
/-! DEFINITION. The named operations over registers, the program counter and local storage; taking the interrupt and
returning from it; stopping and halting; the fetch. -/

namespace Sys2Proof.Machine

/-- What a step or a meaning answers. -/
abbrev Outcome := Host.Outcome State Fault Refusal

/-! General registers (R30, R35). -/

/-- x[r] (R16). -/
def State.reg (s : State) (r : RegNum) : Quad := s.gpr[r.toNat]'(r.isLt)

/-- x[r] <- v (R16). -/
def State.setReg (s : State) (r : RegNum) (v : Quad) : State := { s with gpr := s.gpr.set r.toNat v r.isLt }

/-- The scalar that register r supplies: its word element 0 (R33). -/
def State.scalarReg (s : State) (r : RegNum) : Word := scalar (s.reg r)

/-! The program counter (R36 to R38). -/

/-- The address of the next instruction, modulo the size of local storage (R38). -/
def nextPc (pc : Word) : Word := BitVec.ofNat 32 ((pc.toNat + 4) % Config.lsSize)

/-- `TARGET`: reduced into local storage, the two low bits cleared (R360). -/
def target (t : Word) : Word := BitVec.ofNat 32 (t.toNat % Config.lsSize / 4 * 4)

/-- `LINK`: the address of the next instruction in word element 0 (R361). -/
def link (pc : Word) : Quad := inWord0 (nextPc pc)

/-- The program counter moves to the next instruction (R38). -/
def State.advance (s : State) : State := { s with pc := nextPc s.pc }

/-- An instruction whose only effect is that the next one follows (R38). -/
def continueNext (s : State) : Outcome := .next s.advance

/-- An instruction that writes one register and continues (R16, R38). -/
def writeResult (rt : RegNum) (v : Quad) (s : State) : Outcome := .next (s.setReg rt v).advance

/-! Branches (R360 to R362). -/

/-- What an instruction does to IE (R362). -/
inductive IeChange where
  /-- The plain form. -/
  | keep
  /-- The `d` form. -/
  | disable
  /-- The `e` form. -/
  | enable
deriving DecidableEq, Repr

/-- IE after a change (R362). -/
def IeChange.apply (c : IeChange) (ie : Bool) : Bool :=
  match c with
  | .keep => ie
  | .disable => false
  | .enable => true

/-- A taken branch: the program counter and IE change together (R360, R362). -/
def State.branchTo (s : State) (t : Word) (c : IeChange) : State := { s with pc := target t, ie := c.apply s.ie }

/-- A branch that is taken where `taken` holds, and changes IE only then (R360, R362). -/
def branchIf (taken : Bool) (t : Word) (c : IeChange) (s : State) : Outcome :=
  if taken then .next (s.branchTo t c) else .next s.advance

/-! Local storage (R70 to R75). -/

/-- What an unlisted address reads as (R54 leaves it open).  DESIGN CHOICE (log 6). -/
def Memory.unlisted : Byte := 0

/-- The byte at an address (R70). -/
def Memory.read : Memory → Nat → Byte
  | [], _ => Memory.unlisted
  | (k, v) :: rest, a => if k = a then v else Memory.read rest a

/-- A listed byte put in its place among rising addresses. -/
def Memory.insert (a : Nat) (b : Byte) : Memory → Memory
  | [] => [(a, b)]
  | (k, v) :: rest => if a < k then (a, b) :: (k, v) :: rest else (k, v) :: Memory.insert a b rest

/-- Store a byte, keeping the canonical form: the value an unlisted address reads as is not listed (R70). -/
def Memory.write (m : Memory) (a : Nat) (b : Byte) : Memory :=
  let others := m.filter fun c => c.1 ≠ a
  if b = Memory.unlisted then others else Memory.insert a b others

/-- The canonical form: addresses strictly rising, and no entry equal to what an unlisted address reads as. -/
abbrev Memory.wf (m : Memory) : Prop :=
  m.Pairwise (fun c d => c.1 < d.1) ∧ ∀ c ∈ m, c.2 ≠ Memory.unlisted

/-- Store bytes at rising addresses. -/
def Memory.writeBytes (m : Memory) (a : Nat) : List Byte → Memory
  | [] => m
  | b :: bs => Memory.writeBytes (m.write a b) (a + 1) bs

/-- `MemRead(a, 16)` (R74). -/
def Memory.readQuad (m : Memory) (a : Nat) : Quad := ofBytes fun i => m.read (a + i)

/-- `MemWrite(a, 16, v)` (R75). -/
def Memory.writeQuad (m : Memory) (a : Nat) (v : Quad) : Memory := m.writeBytes a ((List.range 16).map (byteAt v))

/-- `EA`: reduced into local storage and aligned down to a quadword (R73, R400). -/
def effAddr (t : Word) : Nat := t.toNat % Config.lsSize / 16 * 16

/-- The four words of the quadword at `a` (R76). -/
def wordsOfQuad (a : Nat) : List Nat := [a, a + 4, a + 8, a + 12]

/-- Add each address of a list that is not yet there. -/
def markAll (marked : List Nat) (as : List Nat) : List Nat := as.foldl (fun l a => l.insert a) marked

/-- A store by the SPU: the bytes change, other agents may not see it yet, and a fetch of the same words must wait for a
`sync` (R53, R75, R78 to R80). -/
def State.storeQuad (s : State) (a : Nat) (v : Quad) : State :=
  { s with
    mem := s.mem.writeQuad a v
    pendingStores := s.pendingStores.insert a
    unsynced := markAll s.unsynced (wordsOfQuad a) }

/-- Load the quadword at an effective address and continue (R400, R401). -/
def loadFrom (rt : RegNum) (t : Word) (s : State) : Outcome := writeResult rt (s.mem.readQuad (effAddr t)) s

/-- Store the quadword of a register at an effective address and continue (R400, R401). -/
def storeTo (rc : RegNum) (t : Word) (s : State) : Outcome := .next (s.storeQuad (effAddr t) (s.reg rc)).advance

/-- All pending stores complete: other agents see them (R79, R461). -/
def State.completeStores (s : State) : State := { s with pendingStores := [] }

/-- All pending stores complete and nothing fetched earlier is kept (R80, R470). -/
def State.synchronize (s : State) : State := { s.completeStores with unsynced := [] }

/-! Stopping and halting (R500, R501). -/

/-- `Stop(sig)`: NPC, the stop code and the run state change, the PPU is interrupted, the pc stays (R468, R500). -/
def stopWith (signal : BitVec 14) (s : State) : Outcome :=
  .next { s with
    npc := BitVec.ofNat 32 ((s.pc.toNat + Config.stopNpcOffset) % Config.lsSize)
    stopCode := signal
    run := .stopped signal
    ppuInterrupts := s.ppuInterrupts + 1 }

/-- A conditional halt: `Halt` where the condition holds, otherwise the next instruction (R331, R501). -/
def haltIf (condition : Bool) (s : State) : Outcome :=
  if condition then .next { s with run := .halted } else .next s.advance

/-! The interrupt (R505 to R511). -/

/-- The events that are pending and enabled: what channel 0 reads (R505, R507). -/
def State.enabledEvents (s : State) : Word := s.eventPending &&& s.eventMask

/-- The interrupt condition (R509); a stopped or halted SPU takes no interrupt (R508). -/
def State.interruptible (s : State) : Bool := s.run = .running ∧ s.ie = true ∧ s.enabledEvents ≠ 0

/-- Taking the interrupt with the next instruction at the pc: SRR0 takes the pc, IE is cleared, the pc goes to `INT_VECTOR`;
nothing else changes (R510). -/
def State.takeInterrupt (s : State) : State := { s with srr0 := s.pc, ie := false, pc := Config.intVector }

/-- Returning from the interrupt: the pc goes to the target in SRR0, IE as the form says; nothing else changes (R511). -/
def interruptReturn (c : IeChange) (s : State) : Outcome := .next (s.branchTo s.srr0 c)

/-! Fetch (R76, R80, R100). -/

/-- The four bytes of the instruction at the pc (R71, R76). -/
def State.fetchBytes (s : State) : List Byte :=
  [s.mem.read s.pc.toNat, s.mem.read (s.pc.toNat + 1), s.mem.read (s.pc.toNat + 2), s.mem.read (s.pc.toNat + 3)]

/-- Whether the word at the pc was stored to since the last `sync` (R80). -/
def State.staleAtPc (s : State) : Bool := s.unsynced.contains (s.pc.toNat / 4 * 4)

/-- Why undecodable bytes stop the machine (R128, R142 f, R502). -/
def decodeStop (e : DecodeError) : Host.Outcome Instr Fault Refusal :=
  match e with
  | .tooShort => .fault (.illegalInstruction 0)
  | .illegalWord w => .fault (.illegalInstruction w)
  | .bothInterruptBits w => .refused (.bothInterruptBits w)

/-- The instruction at the pc, or why there is none (R76, R80, R128). -/
def State.fetch (s : State) : Host.Outcome Instr Fault Refusal :=
  if s.staleAtPc then .fault (.staleFetch s.pc)
  else
    match decode s.fetchBytes with
    | .ok (i, _) => .next i
    | .error e => decodeStop e

end Sys2Proof.Machine
end

