-- ==== Sys2Proof/Machine/Channels.lean ====
section
/-! DEFINITION. The channels (R43 to R52, R460): the table, the counts, reads and writes, and the state of the devices behind
them.  A channel carries one word (R46). -/

namespace Sys2Proof.Machine

/-- A row of `CHANNEL_TABLE` (R46). -/
structure ChannelRow where
  /-- The channel's number. -/
  number : Nat
  /-- Whether `rdch` may name it. -/
  readable : Bool
  /-- Whether `wrch` may name it. -/
  writable : Bool
  /-- Whether an access waits while the count is 0. -/
  blocking : Bool
  /-- How many values the channel holds. -/
  depth : Nat
deriving DecidableEq, Repr

/-- `CHANNEL_TABLE` with its default values (R46; log 17).  Columns: number, readable, writable, blocking, depth. -/
def channelTable : List ChannelRow :=
  [ ⟨0, true, false, true, 1⟩,      -- SPU_RdEventStat
    ⟨1, false, true, false, 1⟩,     -- SPU_WrEventMask
    ⟨2, false, true, false, 1⟩,     -- SPU_WrEventAck
    ⟨3, true, false, true, 1⟩,      -- SPU_RdSigNotify1
    ⟨4, true, false, true, 1⟩,      -- SPU_RdSigNotify2
    ⟨7, false, true, false, 1⟩,     -- SPU_WrDec
    ⟨8, true, false, false, 1⟩,     -- SPU_RdDec
    ⟨9, false, true, true, 1⟩,      -- MFC_WrMSSyncReq
    ⟨11, true, false, false, 1⟩,    -- SPU_RdEventMask
    ⟨12, true, false, false, 1⟩,    -- MFC_RdTagMask
    ⟨13, true, false, false, 1⟩,    -- SPU_RdMachStat
    ⟨14, false, true, false, 1⟩,    -- SPU_WrSRR0
    ⟨15, true, false, false, 1⟩,    -- SPU_RdSRR0
    ⟨16, false, true, false, 1⟩ ] ++  -- MFC_LSA
  [ ⟨17, false, true, false, 1⟩,    -- MFC_EAH
    ⟨18, false, true, false, 1⟩,    -- MFC_EAL
    ⟨19, false, true, false, 1⟩,    -- MFC_Size
    ⟨20, false, true, false, 1⟩,    -- MFC_TagID
    ⟨21, false, true, true, Config.mfcQueueDepth⟩,  -- MFC_Cmd
    ⟨22, false, true, false, 1⟩,    -- MFC_WrTagMask
    ⟨23, false, true, true, 1⟩,     -- MFC_WrTagUpdate
    ⟨24, true, false, true, 1⟩,     -- MFC_RdTagStat
    ⟨25, true, false, true, 1⟩,     -- MFC_RdListStallStat
    ⟨26, false, true, false, 1⟩,    -- MFC_WrListStallAck
    ⟨27, true, false, true, 1⟩,     -- MFC_RdAtomicStat
    ⟨28, false, true, true, 1⟩,     -- SPU_WrOutMbox
    ⟨29, true, false, true, Config.inMboxDepth⟩,  -- SPU_RdInMbox
    ⟨30, false, true, true, 1⟩ ]    -- SPU_WrOutIntrMbox

/-- The row of a channel; none where the channel has no function (R46). -/
def channelRow (ch : ChNum) : Option ChannelRow := channelTable.find? fun r => r.number = ch.toNat

/-- Whether `rdch` may name the channel (R46, R460). -/
def channelReadable (ch : ChNum) : Bool := (channelRow ch).any (·.readable)

/-- Whether `wrch` may name the channel (R46, R460). -/
def channelWritable (ch : ChNum) : Bool := (channelRow ch).any (·.writable)

/-- Whether an access to the channel waits while the count is 0 (R46). -/
def channelBlocking (ch : ChNum) : Bool := (channelRow ch).any (·.blocking)

/-- How many values an optional entry holds. -/
def entries (o : Option Word) : Nat :=
  match o with
  | none => 0
  | some _ => 1

/-- The count of a blocking channel: the values that can be read, or the writes that can be accepted, without waiting (R43,
R507). -/
def State.blockingCount (s : State) (ch : ChNum) : Nat :=
  match ch.toNat with
  | 0 => if s.enabledEvents = 0 then 0 else 1
  | 3 => entries s.sigNotify1
  | 4 => entries s.sigNotify2
  | 9 => 1 - entries s.mfc.msSyncReq
  | 21 => Config.mfcQueueDepth - s.mfc.queue.length
  | 23 => 1 - entries s.mfc.tagUpdate
  | 24 => entries s.mfc.tagStat
  | 25 => entries s.mfc.listStall
  | 27 => entries s.mfc.atomicStat
  | 28 => 1 - entries s.outMbox
  | 29 => s.inMbox.length
  | 30 => 1 - entries s.outIntrMbox
  | _ => 0

/-- One free value has been drawn (log 34). -/
def State.drawn (s : State) : State := { s with draws := s.draws + 1 }

/-- `ch_count(ch)` as a word, and the state after it: from the device's state for a blocking channel, a free value for the
others (R43, R460; log 18). -/
def State.channelCount (s : State) (ch : ChNum) : Word × State :=
  if channelBlocking ch then (BitVec.ofNat 32 (s.blockingCount ch), s)
  else (Config.channelCount ch s.draws, s.drawn)

/-- Whether the count of channel 0 is not 0: some enabled event is pending (R48, R507). -/
def State.eventCountNonzero (s : State) : Bool := s.blockingCount 0 ≠ 0

/-! DMA commands and the tag status (R52, R82; log 28). -/

/-- The command that channel 21 enqueues: the word written with the five parameters (R52). -/
def Mfc.command (m : Mfc) (cmd : Word) : MfcCommand :=
  { cmd := cmd, lsa := m.lsa, eah := m.eah, eal := m.eal, size := m.size, tagId := m.tagId }

/-- A command is enqueued, and from then on it may move its bytes (R52, R82). -/
def Mfc.enqueue (m : Mfc) (c : MfcCommand) : Mfc :=
  { m with queue := m.queue ++ [c], transfers := m.transfers ++ [{ command := c, moved := [] }] }

/-- How many bytes a transfer moves (R82). -/
def Transfer.size (t : Transfer) : Nat := t.command.size.toNat

/-- The address in local storage of byte `k` of a transfer, reduced into local storage (R73, R82). -/
def Transfer.addr (t : Transfer) (k : Nat) : Nat := (t.command.lsa.toNat + k) % Config.lsSize

/-- What the transfer does to local storage (R82). -/
def Transfer.kind (t : Transfer) : Config.DmaKind := Config.dmaKind t.command.cmd

/-- Whether some byte of the transfer has not been moved yet: each is moved once (R82). -/
def Transfer.unfinished (t : Transfer) : Bool := t.kind ≠ .noTransfer ∧ t.moved.length < t.size

/-- The tag-status bit of the transfer's tag. -/
def Transfer.tagWord (t : Transfer) : Word := 1#32 <<< (Config.tagBit t.command.tagId).val

/-- The bits of the tags that have an unfinished transfer. -/
def unfinishedTags (ts : List Transfer) : Word := ts.foldr (fun t w => if t.unfinished then t.tagWord ||| w else w) 0

/-- What channel 24 reads where the MFC answered `w`: the mask is applied, and no tag with an unfinished transfer is reported
complete (R46, R82). -/
def Mfc.reportedTags (m : Mfc) (w : Word) : Word := w &&& m.tagMask &&& ~~~(unfinishedTags m.transfers)

/-- The MFC after channel 24 has read `r`: the transfers of the tags it reports complete are over (R82). -/
def Mfc.observed (m : Mfc) (r : Word) : Mfc :=
  { m with tagStat := none, transfers := m.transfers.filter fun t => t.tagWord &&& r = 0 }

/-! Reading and writing. -/

/-- `ch_read(ch)`: the word and the state after the read, or nothing while the channel has nothing to read (R44, R48 to
R52, R507). -/
def State.channelRead (s : State) (ch : ChNum) : Option (Word × State) :=
  match ch.toNat with
  | 0 => if s.enabledEvents = 0 then none else some (s.enabledEvents, s)
  | 3 => s.sigNotify1.map fun w => (w, { s with sigNotify1 := none })
  | 4 => s.sigNotify2.map fun w => (w, { s with sigNotify2 := none })
  | 8 => some (Config.decrementerRead s.decrementer s.draws, s.drawn)
  | 11 => some (s.eventMask, s)
  | 12 => some (s.mfc.tagMask, s)
  | 13 => some (Config.machineStatus s.draws ++ BitVec.ofBool s.ie, s.drawn)
  | 15 => some (s.srr0, s)
  | 24 => s.mfc.tagStat.map fun w =>
    (s.mfc.reportedTags w, { s with mfc := s.mfc.observed (s.mfc.reportedTags w) })
  | 25 => s.mfc.listStall.map fun w => (w, { s with mfc := { s.mfc with listStall := none } })
  | 27 => s.mfc.atomicStat.map fun w => (w, { s with mfc := { s.mfc with atomicStat := none } })
  | 29 => s.inMbox.head?.map fun w => (w, { s with inMbox := s.inMbox.tail })
  | _ => none

/-- `ch_write(ch, v)`: the state after the write, or nothing while the channel cannot accept one (R45, R48 to R52, R507). -/
def State.channelWrite (s : State) (ch : ChNum) (v : Word) : Option State :=
  match ch.toNat with
  | 1 => some { s with eventMask := v }
  | 2 => some { s with eventPending := s.eventPending &&& ~~~v }
  | 7 => some { s with decrementer := v }
  | 9 => if s.mfc.msSyncReq.isSome then none else some { s with mfc := { s.mfc with msSyncReq := some v } }
  | 14 => some { s with srr0 := v }
  | 16 => some { s with mfc := { s.mfc with lsa := v } }
  | 17 => some { s with mfc := { s.mfc with eah := v } }
  | 18 => some { s with mfc := { s.mfc with eal := v } }
  | 19 => some { s with mfc := { s.mfc with size := v } }
  | 20 => some { s with mfc := { s.mfc with tagId := v } }
  | 21 =>
    if s.mfc.queue.length < Config.mfcQueueDepth then
      some { s with mfc := s.mfc.enqueue (s.mfc.command v) }
    else none
  | 22 => some { s with mfc := { s.mfc with tagMask := v } }
  | 23 => if s.mfc.tagUpdate.isSome then none else some { s with mfc := { s.mfc with tagUpdate := some v } }
  | 26 => some { s with mfc := { s.mfc with listStallAck := v } }
  | 28 => if s.outMbox.isSome then none else some { s with outMbox := some v }
  | 30 =>
    if s.outIntrMbox.isSome then none
    else some { s with outIntrMbox := some v, ppuInterrupts := s.ppuInterrupts + 1 }
  | _ => none

/-- A channel instruction that waits: no state changes (R18, R460 c). -/
def stall (s : State) : Outcome := .next s

/-! Special purpose registers (R47). -/

/-- The contents of a special purpose register, where it exists. -/
def State.sprRead (s : State) (n : SprNum) : Option Word := s.spr.lookup n

/-- Replace the contents of a special purpose register that exists. -/
def State.sprWrite (s : State) (n : SprNum) (v : Word) : State :=
  { s with spr := s.spr.map fun e => if e.1 = n then (e.1, v) else e }

end Sys2Proof.Machine
end

