-- ==== Sys2Proof/Machine/BranchHint.lean ====
section
/-! DEFINITION. Branches, interrupt return, branch hints (R360 to R399). One meaning for each instruction. -/

namespace Sys2Proof.Machine

/-- Whether word element 0 of a register is 0: the condition of the word branches (R382, R392). -/
def State.wordZero (s : State) (rc : RegNum) : Bool := wordAt (s.reg rc) 0 = 0

/-- Whether halfword element 1 of a register is 0: the condition of the halfword branches (R370, R389). -/
def State.halfZero (s : State) (rc : RegNum) : Bool := halfAt (s.reg rc) 1 = 0

/-- The address a relative operand names (R112, R385). -/
def State.relative (s : State) (s18 : BitVec 18) : Word := s.pc + s18Word s18

/-- A branch that writes the link register; the target was read before (R361, R376). -/
def branchLink (rt : RegNum) (t : Word) (c : IeChange) (s : State) : Outcome :=
  .next ((s.setReg rt (link s.pc)).branchTo t c)

/-- `bisled` and its variants: the link is written in any case, the branch is taken where the count of channel 0 is not 0
(R379). -/
def branchLinkOnEvent (rt : RegNum) (t : Word) (c : IeChange) (s : State) : Outcome :=
  branchIf s.eventCountNonzero t c (s.setReg rt (link s.pc))

/-- `bi ra` (R364). -/
def execBi (ra : RegNum) (s : State) : Outcome := branchIf true (s.scalarReg ra) .keep s

/-- `bid ra` (R365). -/
def execBid (ra : RegNum) (s : State) : Outcome := branchIf true (s.scalarReg ra) .disable s

/-- `bie ra` (R366). -/
def execBie (ra : RegNum) (s : State) : Outcome := branchIf true (s.scalarReg ra) .enable s

/-- `bihnz rc, ra` (R367). -/
def execBihnz (rc : RegNum) (ra : RegNum) (s : State) : Outcome := branchIf (!s.halfZero rc) (s.scalarReg ra) .keep s

/-- `bihnzd rc, ra` (R368). -/
def execBihnzd (rc : RegNum) (ra : RegNum) (s : State) : Outcome := branchIf (!s.halfZero rc) (s.scalarReg ra) .disable s

/-- `bihnze rc, ra` (R369). -/
def execBihnze (rc : RegNum) (ra : RegNum) (s : State) : Outcome := branchIf (!s.halfZero rc) (s.scalarReg ra) .enable s

/-- `bihz rc, ra` (R370). -/
def execBihz (rc : RegNum) (ra : RegNum) (s : State) : Outcome := branchIf (s.halfZero rc) (s.scalarReg ra) .keep s

/-- `bihzd rc, ra` (R371). -/
def execBihzd (rc : RegNum) (ra : RegNum) (s : State) : Outcome := branchIf (s.halfZero rc) (s.scalarReg ra) .disable s

/-- `bihze rc, ra` (R372). -/
def execBihze (rc : RegNum) (ra : RegNum) (s : State) : Outcome := branchIf (s.halfZero rc) (s.scalarReg ra) .enable s

/-- `binz rc, ra` (R373). -/
def execBinz (rc : RegNum) (ra : RegNum) (s : State) : Outcome := branchIf (!s.wordZero rc) (s.scalarReg ra) .keep s

/-- `binzd rc, ra` (R374). -/
def execBinzd (rc : RegNum) (ra : RegNum) (s : State) : Outcome := branchIf (!s.wordZero rc) (s.scalarReg ra) .disable s

/-- `binze rc, ra` (R375). -/
def execBinze (rc : RegNum) (ra : RegNum) (s : State) : Outcome := branchIf (!s.wordZero rc) (s.scalarReg ra) .enable s

/-- `bisl rt, ra` (R376). -/
def execBisl (rt : RegNum) (ra : RegNum) (s : State) : Outcome := branchLink rt (s.scalarReg ra) .keep s

/-- `bisld rt, ra` (R377). -/
def execBisld (rt : RegNum) (ra : RegNum) (s : State) : Outcome := branchLink rt (s.scalarReg ra) .disable s

/-- `bisle rt, ra` (R378). -/
def execBisle (rt : RegNum) (ra : RegNum) (s : State) : Outcome := branchLink rt (s.scalarReg ra) .enable s

/-- `bisled rt, ra` (R379). -/
def execBisled (rt : RegNum) (ra : RegNum) (s : State) : Outcome := branchLinkOnEvent rt (s.scalarReg ra) .keep s

/-- `bisledd rt, ra` (R380). -/
def execBisledd (rt : RegNum) (ra : RegNum) (s : State) : Outcome := branchLinkOnEvent rt (s.scalarReg ra) .disable s

/-- `bislede rt, ra` (R381). -/
def execBislede (rt : RegNum) (ra : RegNum) (s : State) : Outcome := branchLinkOnEvent rt (s.scalarReg ra) .enable s

/-- `biz rc, ra` (R382). -/
def execBiz (rc : RegNum) (ra : RegNum) (s : State) : Outcome := branchIf (s.wordZero rc) (s.scalarReg ra) .keep s

/-- `bizd rc, ra` (R383). -/
def execBizd (rc : RegNum) (ra : RegNum) (s : State) : Outcome := branchIf (s.wordZero rc) (s.scalarReg ra) .disable s

/-- `bize rc, ra` (R384). -/
def execBize (rc : RegNum) (ra : RegNum) (s : State) : Outcome := branchIf (s.wordZero rc) (s.scalarReg ra) .enable s

/-- `br s18` (R385). -/
def execBr (s18 : BitVec 18) (s : State) : Outcome := branchIf true (s.relative s18) .keep s

/-- `bra s18` (R386). -/
def execBra (s18 : BitVec 18) (s : State) : Outcome := branchIf true (s18Word s18) .keep s

/-- `brasl rt, s18` (R387). -/
def execBrasl (rt : RegNum) (s18 : BitVec 18) (s : State) : Outcome := branchLink rt (s18Word s18) .keep s

/-- `brhnz rc, s18` (R388). -/
def execBrhnz (rc : RegNum) (s18 : BitVec 18) (s : State) : Outcome := branchIf (!s.halfZero rc) (s.relative s18) .keep s

/-- `brhz rc, s18` (R389). -/
def execBrhz (rc : RegNum) (s18 : BitVec 18) (s : State) : Outcome := branchIf (s.halfZero rc) (s.relative s18) .keep s

/-- `brnz rc, s18` (R390). -/
def execBrnz (rc : RegNum) (s18 : BitVec 18) (s : State) : Outcome := branchIf (!s.wordZero rc) (s.relative s18) .keep s

/-- `brsl rt, s18` (R391). -/
def execBrsl (rt : RegNum) (s18 : BitVec 18) (s : State) : Outcome := branchLink rt (s.relative s18) .keep s

/-- `brz rc, s18` (R392). -/
def execBrz (rc : RegNum) (s18 : BitVec 18) (s : State) : Outcome := branchIf (s.wordZero rc) (s.relative s18) .keep s

/-- `hbr s11, ra` (R393): a hint has no architectural effect. -/
def execHbr (_s11 : BitVec 11) (_ra : RegNum) (s : State) : Outcome := continueNext s

/-- `hbra s11, s18` (R394): a hint has no architectural effect. -/
def execHbra (_s11 : BitVec 11) (_s18 : BitVec 18) (s : State) : Outcome := continueNext s

/-- `hbrp` (R395): a hint has no architectural effect. -/
def execHbrp (s : State) : Outcome := continueNext s

/-- `hbrr s11, s18` (R396): a hint has no architectural effect. -/
def execHbrr (_s11 : BitVec 11) (_s18 : BitVec 18) (s : State) : Outcome := continueNext s

/-- `iret or iret ra` (R397). -/
def execIret (_ra : RegNum) (s : State) : Outcome := interruptReturn .keep s

/-- `iretd or iretd ra` (R398). -/
def execIretd (_ra : RegNum) (s : State) : Outcome := interruptReturn .disable s

/-- `irete or irete ra` (R399). -/
def execIrete (_ra : RegNum) (s : State) : Outcome := interruptReturn .enable s

end Sys2Proof.Machine
end

