-- ==== Sys2Proof/Machine/CompareHalt.lean ====
section
/-! DEFINITION. Compares and conditional halts (R330 to R355). One meaning for each instruction. -/

namespace Sys2Proof.Machine

/-- `ceq rt, ra, rb` (R332). -/
def execCeq (rt : RegNum) (ra : RegNum) (rb : RegNum) (s : State) : Outcome :=
  writeResult rt (words2 (fun a b => maskWord (a = b)) (s.reg ra) (s.reg rb)) s

/-- `ceqb rt, ra, rb` (R333). -/
def execCeqb (rt : RegNum) (ra : RegNum) (rb : RegNum) (s : State) : Outcome :=
  writeResult rt (bytes2 (fun a b => maskByte (a = b)) (s.reg ra) (s.reg rb)) s

/-- `ceqbi rt, ra, s10` (R334). -/
def execCeqbi (rt : RegNum) (ra : RegNum) (s10 : BitVec 10) (s : State) : Outcome :=
  writeResult rt (bytes1 (fun a => maskByte (a = s10Byte s10)) (s.reg ra)) s

/-- `ceqh rt, ra, rb` (R335). -/
def execCeqh (rt : RegNum) (ra : RegNum) (rb : RegNum) (s : State) : Outcome :=
  writeResult rt (halfs2 (fun a b => maskHalf (a = b)) (s.reg ra) (s.reg rb)) s

/-- `ceqhi rt, ra, s10` (R336). -/
def execCeqhi (rt : RegNum) (ra : RegNum) (s10 : BitVec 10) (s : State) : Outcome :=
  writeResult rt (halfs1 (fun a => maskHalf (a = s10Half s10)) (s.reg ra)) s

/-- `ceqi rt, ra, s10` (R337). -/
def execCeqi (rt : RegNum) (ra : RegNum) (s10 : BitVec 10) (s : State) : Outcome :=
  writeResult rt (words1 (fun a => maskWord (a = s10Word s10)) (s.reg ra)) s

/-- `cgt rt, ra, rb` (R338). -/
def execCgt (rt : RegNum) (ra : RegNum) (rb : RegNum) (s : State) : Outcome :=
  writeResult rt (words2 (fun a b => maskWord (signedGt a b)) (s.reg ra) (s.reg rb)) s

/-- `cgtb rt, ra, rb` (R339). -/
def execCgtb (rt : RegNum) (ra : RegNum) (rb : RegNum) (s : State) : Outcome :=
  writeResult rt (bytes2 (fun a b => maskByte (signedGt a b)) (s.reg ra) (s.reg rb)) s

/-- `cgtbi rt, ra, s10` (R340). -/
def execCgtbi (rt : RegNum) (ra : RegNum) (s10 : BitVec 10) (s : State) : Outcome :=
  writeResult rt (bytes1 (fun a => maskByte (signedGt a (s10Byte s10))) (s.reg ra)) s

/-- `cgth rt, ra, rb` (R341). -/
def execCgth (rt : RegNum) (ra : RegNum) (rb : RegNum) (s : State) : Outcome :=
  writeResult rt (halfs2 (fun a b => maskHalf (signedGt a b)) (s.reg ra) (s.reg rb)) s

/-- `cgthi rt, ra, s10` (R342). -/
def execCgthi (rt : RegNum) (ra : RegNum) (s10 : BitVec 10) (s : State) : Outcome :=
  writeResult rt (halfs1 (fun a => maskHalf (signedGt a (s10Half s10))) (s.reg ra)) s

/-- `cgti rt, ra, s10` (R343). -/
def execCgti (rt : RegNum) (ra : RegNum) (s10 : BitVec 10) (s : State) : Outcome :=
  writeResult rt (words1 (fun a => maskWord (signedGt a (s10Word s10))) (s.reg ra)) s

/-- `clgt rt, ra, rb` (R344). -/
def execClgt (rt : RegNum) (ra : RegNum) (rb : RegNum) (s : State) : Outcome :=
  writeResult rt (words2 (fun a b => maskWord (unsignedGt a b)) (s.reg ra) (s.reg rb)) s

/-- `clgtb rt, ra, rb` (R345). -/
def execClgtb (rt : RegNum) (ra : RegNum) (rb : RegNum) (s : State) : Outcome :=
  writeResult rt (bytes2 (fun a b => maskByte (unsignedGt a b)) (s.reg ra) (s.reg rb)) s

/-- `clgtbi rt, ra, s10` (R346). -/
def execClgtbi (rt : RegNum) (ra : RegNum) (s10 : BitVec 10) (s : State) : Outcome :=
  writeResult rt (bytes1 (fun a => maskByte (unsignedGt a (s10Byte s10))) (s.reg ra)) s

/-- `clgth rt, ra, rb` (R347). -/
def execClgth (rt : RegNum) (ra : RegNum) (rb : RegNum) (s : State) : Outcome :=
  writeResult rt (halfs2 (fun a b => maskHalf (unsignedGt a b)) (s.reg ra) (s.reg rb)) s

/-- `clgthi rt, ra, s10` (R348). -/
def execClgthi (rt : RegNum) (ra : RegNum) (s10 : BitVec 10) (s : State) : Outcome :=
  writeResult rt (halfs1 (fun a => maskHalf (unsignedGt a (s10Half s10))) (s.reg ra)) s

/-- `clgti rt, ra, s10` (R349). -/
def execClgti (rt : RegNum) (ra : RegNum) (s10 : BitVec 10) (s : State) : Outcome :=
  writeResult rt (words1 (fun a => maskWord (unsignedGt a (s10Word s10))) (s.reg ra)) s

/-- `heq ra, rb or heq rt, ra, rb` (R350): rt is a pseudo target. -/
def execHeq (_rt : RegNum) (ra : RegNum) (rb : RegNum) (s : State) : Outcome :=
  haltIf ((s.scalarReg ra) = (s.scalarReg rb)) s

/-- `heqi ra, s10 or heqi rt, ra, s10` (R351). -/
def execHeqi (_rt : RegNum) (ra : RegNum) (s10 : BitVec 10) (s : State) : Outcome :=
  haltIf ((s.scalarReg ra) = (s10Word s10)) s

/-- `hgt ra, rb or hgt rt, ra, rb` (R352). -/
def execHgt (_rt : RegNum) (ra : RegNum) (rb : RegNum) (s : State) : Outcome :=
  haltIf (signedGt (s.scalarReg ra) (s.scalarReg rb)) s

/-- `hgti ra, s10 or hgti rt, ra, s10` (R353). -/
def execHgti (_rt : RegNum) (ra : RegNum) (s10 : BitVec 10) (s : State) : Outcome :=
  haltIf (signedGt (s.scalarReg ra) (s10Word s10)) s

/-- `hlgt ra, rb or hlgt rt, ra, rb` (R354). -/
def execHlgt (_rt : RegNum) (ra : RegNum) (rb : RegNum) (s : State) : Outcome :=
  haltIf (unsignedGt (s.scalarReg ra) (s.scalarReg rb)) s

/-- `hlgti ra, s10 or hlgti rt, ra, s10` (R355). -/
def execHlgti (_rt : RegNum) (ra : RegNum) (s10 : BitVec 10) (s : State) : Outcome :=
  haltIf (unsignedGt (s.scalarReg ra) (s10Word s10)) s

end Sys2Proof.Machine
end

