-- ==== Sys2Proof/Machine/ConstMask.lean ====
section
/-! DEFINITION. Constant formation, masks, insertion controls, shuffle (R260 to R284). One meaning for each instruction. -/

namespace Sys2Proof.Machine

/-- `SHUFB_SELECT`: the byte that control byte c selects from a, b or the constants (R262; the default table, log 15). -/
def shufbSelect (c : Byte) (a b : Quad) : Byte :=
  if c.toNat / 64 = 0b10 then 0x00
  else if c.toNat / 32 = 0b110 then 0xFF
  else if c.toNat / 32 = 0b111 then 0x80
  else if c.toNat % 32 < 16 then byteAt a (c.toNat % 32)
  else byteAt b (c.toNat % 32 - 16)

/-- The byte of a scalar of `size` bytes in its preferred position that goes to place k of the inserted field (R263). -/
def preferredByte (size k : Nat) : Nat :=
  match size with
  | 1 => 3
  | 2 => 2 + k
  | _ => k

/-- `INSERT_MASK`: the `shufb` control that inserts a scalar of `size` bytes at position p (R263; the default values, log 15). -/
def insertMask (size p : Nat) : Quad :=
  ofBytes fun j =>
    if p / size * size ≤ j ∧ j < p / size * size + size then BitVec.ofNat 8 (preferredByte size (j - p / size * size))
    else BitVec.ofNat 8 (0x10 + j)

/-- The insertion control of a scalar of `size` bytes at an address: its low four bits count (R264). -/
def insertControl (size : Nat) (t : Word) : Quad := insertMask size (bitField t 0 4)

/-- Mask bit i from the left of an `n`-bit mask (R261). -/
def maskBit (m n i : Nat) : Bool := m.testBit (n - 1 - i)

/-- A mask bit in every bit of a word (R272). -/
def selectWords (m : Nat) : Quad := ofWords fun i => maskWord (maskBit m 4 i)
/-- A mask bit in every bit of a halfword (R275). -/
def selectHalfs (m : Nat) : Quad := ofHalfs fun i => maskHalf (maskBit m 8 i)
/-- A mask bit in every bit of a byte (R273, R274). -/
def selectBytes (m : Nat) : Quad := ofBytes fun i => maskByte (maskBit m 16 i)

/-- The bits `f 0` to `f (n - 1)` as a number, `f 0` the most significant (R261, R276). -/
def gather (f : Nat → Bool) : Nat → Nat
  | 0 => 0
  | n + 1 => 2 * gather f n + (f n).toNat

/-- `cbd rt, u7(ra)` (R264). -/
def execCbd (rt : RegNum) (u7 : BitVec 7) (ra : RegNum) (s : State) : Outcome :=
  writeResult rt (insertControl 1 (s.scalarReg ra + u7Word u7)) s

/-- `cbx rt, ra, rb` (R265). -/
def execCbx (rt : RegNum) (ra : RegNum) (rb : RegNum) (s : State) : Outcome :=
  writeResult rt (insertControl 1 (s.scalarReg ra + s.scalarReg rb)) s

/-- `cdd rt, u7(ra)` (R266). -/
def execCdd (rt : RegNum) (u7 : BitVec 7) (ra : RegNum) (s : State) : Outcome :=
  writeResult rt (insertControl 8 (s.scalarReg ra + u7Word u7)) s

/-- `cdx rt, ra, rb` (R267). -/
def execCdx (rt : RegNum) (ra : RegNum) (rb : RegNum) (s : State) : Outcome :=
  writeResult rt (insertControl 8 (s.scalarReg ra + s.scalarReg rb)) s

/-- `chd rt, u7(ra)` (R268). -/
def execChd (rt : RegNum) (u7 : BitVec 7) (ra : RegNum) (s : State) : Outcome :=
  writeResult rt (insertControl 2 (s.scalarReg ra + u7Word u7)) s

/-- `chx rt, ra, rb` (R269). -/
def execChx (rt : RegNum) (ra : RegNum) (rb : RegNum) (s : State) : Outcome :=
  writeResult rt (insertControl 2 (s.scalarReg ra + s.scalarReg rb)) s

/-- `cwd rt, u7(ra)` (R270). -/
def execCwd (rt : RegNum) (u7 : BitVec 7) (ra : RegNum) (s : State) : Outcome :=
  writeResult rt (insertControl 4 (s.scalarReg ra + u7Word u7)) s

/-- `cwx rt, ra, rb` (R271). -/
def execCwx (rt : RegNum) (ra : RegNum) (rb : RegNum) (s : State) : Outcome :=
  writeResult rt (insertControl 4 (s.scalarReg ra + s.scalarReg rb)) s

/-- `fsm rt, ra` (R272). -/
def execFsm (rt : RegNum) (ra : RegNum) (s : State) : Outcome :=
  writeResult rt (selectWords (bitField (s.scalarReg ra) 0 4)) s

/-- `fsmb rt, ra` (R273). -/
def execFsmb (rt : RegNum) (ra : RegNum) (s : State) : Outcome :=
  writeResult rt (selectBytes (bitField (s.scalarReg ra) 0 16)) s

/-- `fsmbi rt, u16` (R274). -/
def execFsmbi (rt : RegNum) (u16 : BitVec 16) (s : State) : Outcome := writeResult rt (selectBytes u16.toNat) s

/-- `fsmh rt, ra` (R275). -/
def execFsmh (rt : RegNum) (ra : RegNum) (s : State) : Outcome :=
  writeResult rt (selectHalfs (bitField (s.scalarReg ra) 0 8)) s

/-- `gb rt, ra` (R276). -/
def execGb (rt : RegNum) (ra : RegNum) (s : State) : Outcome :=
  writeResult rt (inWord0 (BitVec.ofNat 32 (gather (fun i => (wordAt (s.reg ra) i).getLsbD 0) 4))) s

/-- `gbb rt, ra` (R277). -/
def execGbb (rt : RegNum) (ra : RegNum) (s : State) : Outcome :=
  writeResult rt (inWord0 (BitVec.ofNat 32 (gather (fun i => (byteAt (s.reg ra) i).getLsbD 0) 16))) s

/-- `gbh rt, ra` (R278). -/
def execGbh (rt : RegNum) (ra : RegNum) (s : State) : Outcome :=
  writeResult rt (inWord0 (BitVec.ofNat 32 (gather (fun i => (halfAt (s.reg ra) i).getLsbD 0) 8))) s

/-- `il rt, s16` (R279). -/
def execIl (rt : RegNum) (s16 : BitVec 16) (s : State) : Outcome := writeResult rt (ofWords fun _ => s16Word s16) s

/-- `ila rt, u18` (R280). -/
def execIla (rt : RegNum) (u18 : BitVec 18) (s : State) : Outcome := writeResult rt (ofWords fun _ => u18Word u18) s

/-- `ilh rt, u16` (R281). -/
def execIlh (rt : RegNum) (u16 : BitVec 16) (s : State) : Outcome := writeResult rt (ofHalfs fun _ => u16) s

/-- `ilhu rt, u16` (R282). -/
def execIlhu (rt : RegNum) (u16 : BitVec 16) (s : State) : Outcome := writeResult rt (ofWords fun _ => u16 ++ 0#16) s

/-- `iohl rt, u16` (R283). -/
def execIohl (rt : RegNum) (u16 : BitVec 16) (s : State) : Outcome :=
  writeResult rt (words1 (· ||| u16Word u16) (s.reg rt)) s

/-- `shufb rt, ra, rb, rc` (R284). -/
def execShufb (rt : RegNum) (ra : RegNum) (rb : RegNum) (rc : RegNum) (s : State) : Outcome :=
  writeResult rt (ofBytes fun i => shufbSelect (byteAt (s.reg rc) i) (s.reg ra) (s.reg rb)) s

end Sys2Proof.Machine
end

