-- ==== Sys2Proof/Machine/ControlChannel.lean ====
section
/-! DEFINITION. Control, synchronisation, channel and special purpose register instructions (R460 to R472). One meaning for each instruction. -/

namespace Sys2Proof.Machine

/-- `dsync` (R461): the pending stores complete. -/
def execDsync (s : State) : Outcome := continueNext s.completeStores

/-- `lnop` (R462). -/
def execLnop (s : State) : Outcome := continueNext s

/-- `mfspr rt, spr` (R463): refused where spr is not in `SPR_SET`. -/
def execMfspr (rt : RegNum) (spr : SprNum) (s : State) : Outcome :=
  match s.sprRead spr with
  | some w => writeResult rt (inWord0 w) s
  | none => .refused (.sprAbsent spr)

/-- `mtspr spr, ra` (R464): refused where spr is not in `SPR_SET`. -/
def execMtspr (spr : SprNum) (ra : RegNum) (s : State) : Outcome :=
  match s.sprRead spr with
  | some _ => continueNext (s.sprWrite spr (s.scalarReg ra))
  | none => .refused (.sprAbsent spr)

/-- `nop or nop rt` (R465): rt is a pseudo target. -/
def execNop (_rt : RegNum) (s : State) : Outcome := continueNext s

/-- `rchcnt rt, ch` (R466). -/
def execRchcnt (rt : RegNum) (ch : ChNum) (s : State) : Outcome :=
  writeResult rt (inWord0 (s.channelCount ch).1) (s.channelCount ch).2

/-- `rdch rt, ch` (R467): refused where the channel table has no such read, waits while there is nothing to read. -/
def execRdch (rt : RegNum) (ch : ChNum) (s : State) : Outcome :=
  if channelReadable ch then
    match s.channelRead ch with
    | some (w, t) => writeResult rt (inWord0 w) t
    | none => stall s
  else .refused (.channelNotReadable ch)

/-- `stop u14` (R468). -/
def execStop (u14 : BitVec 14) (s : State) : Outcome := stopWith u14 s

/-- `stopd ra, rb, rc` (R469): the registers are dependencies only. -/
def execStopd (_ra : RegNum) (_rb : RegNum) (_rc : RegNum) (s : State) : Outcome := stopWith Config.stopdSignal s

/-- `sync` (R470): the pending stores complete and no earlier fetch is kept. -/
def execSync (s : State) : Outcome := continueNext s.synchronize

/-- `syncc` (R471): as `sync`; channel writes have already taken effect (log 25). -/
def execSyncc (s : State) : Outcome := continueNext s.synchronize

/-- `wrch ch, ra` (R472): refused where the channel table has no such write, waits while the channel cannot accept one. -/
def execWrch (ch : ChNum) (ra : RegNum) (s : State) : Outcome :=
  if channelWritable ch then
    match s.channelWrite ch (s.scalarReg ra) with
    | some t => continueNext t
    | none => stall s
  else .refused (.channelNotWritable ch)

end Sys2Proof.Machine
end

