-- ==== Sys2Proof/Machine/FloatingPoint.lean ====
section
/-! DEFINITION. Floating point (R420 to R451). One meaning for each instruction. -/

namespace Sys2Proof.Machine

/-- The result of a floating-point instruction: rt takes it, FPSCR is updated, the next instruction follows (R420, R421). -/
def fpResult (i : Instr) (rt : RegNum) (operands : List Quad) (result : Quad) (s : State) : Outcome :=
  .next ({ s with fpscr := Config.fpscrUpdate s.fpscr i operands result }.setReg rt result).advance

/-- `CFLTS` on one word: the integer of the scaled value, clamped to the signed range (R424). -/
def cflts32 (fpscr : Quad) (scale : BitVec 8) (a : Word) : Word :=
  BitVec.ofInt 32 (max (-2 ^ 31) (min (2 ^ 31 - 1) (Config.floatToInt fpscr a scale)))

/-- `CFLTU` on one word: the integer of the scaled value, clamped to the unsigned range (R425). -/
def cfltu32 (fpscr : Quad) (scale : BitVec 8) (a : Word) : Word :=
  BitVec.ofInt 32 (max 0 (min (2 ^ 32 - 1) (Config.floatToInt fpscr a scale)))

/-- `FCMEQ32`: equality of the absolute values (R438). -/
def fcmeq32 (fpscr : Quad) (a b : Word) : Bool := Config.fceq32 fpscr (Config.fabs32 a) (Config.fabs32 b)

/-- `FCMGT32`: comparison of the absolute values (R439). -/
def fcmgt32 (fpscr : Quad) (a b : Word) : Bool := Config.fcgt32 fpscr (Config.fabs32 a) (Config.fabs32 b)

/-- `cflts rt, ra, scale7` (R424). -/
def execCflts (rt : RegNum) (ra : RegNum) (scale : BitVec 8) (s : State) : Outcome :=
  fpResult (.cflts rt ra scale) rt [s.reg ra] (words1 (cflts32 s.fpscr scale) (s.reg ra)) s

/-- `cfltu rt, ra, scale7` (R425). -/
def execCfltu (rt : RegNum) (ra : RegNum) (scale : BitVec 8) (s : State) : Outcome :=
  fpResult (.cfltu rt ra scale) rt [s.reg ra] (words1 (cfltu32 s.fpscr scale) (s.reg ra)) s

/-- `csflt rt, ra, scale7` (R426). -/
def execCsflt (rt : RegNum) (ra : RegNum) (scale : BitVec 8) (s : State) : Outcome :=
  fpResult (.csflt rt ra scale) rt [s.reg ra] (words1 (fun a => Config.csflt32 s.fpscr a.toInt scale) (s.reg ra)) s

/-- `cuflt rt, ra, scale7` (R427). -/
def execCuflt (rt : RegNum) (ra : RegNum) (scale : BitVec 8) (s : State) : Outcome :=
  fpResult (.cuflt rt ra scale) rt [s.reg ra] (words1 (fun a => Config.cuflt32 s.fpscr a.toNat scale) (s.reg ra)) s

/-- `dfa rt, ra, rb` (R428). -/
def execDfa (rt : RegNum) (ra : RegNum) (rb : RegNum) (s : State) : Outcome :=
  fpResult (.dfa rt ra rb) rt [s.reg ra, s.reg rb] (dwords2 (Config.dfadd s.fpscr) (s.reg ra) (s.reg rb)) s

/-- `dfm rt, ra, rb` (R429). -/
def execDfm (rt : RegNum) (ra : RegNum) (rb : RegNum) (s : State) : Outcome :=
  fpResult (.dfm rt ra rb) rt [s.reg ra, s.reg rb] (dwords2 (Config.dfmul s.fpscr) (s.reg ra) (s.reg rb)) s

/-- `dfma rt, ra, rb` (R430). -/
def execDfma (rt : RegNum) (ra : RegNum) (rb : RegNum) (s : State) : Outcome :=
  fpResult (.dfma rt ra rb) rt [s.reg ra, s.reg rb, s.reg rt] (dwords3 (Config.dfma s.fpscr) (s.reg ra) (s.reg rb) (s.reg rt)) s

/-- `dfms rt, ra, rb` (R431). -/
def execDfms (rt : RegNum) (ra : RegNum) (rb : RegNum) (s : State) : Outcome :=
  fpResult (.dfms rt ra rb) rt [s.reg ra, s.reg rb, s.reg rt] (dwords3 (Config.dfms s.fpscr) (s.reg ra) (s.reg rb) (s.reg rt)) s

/-- `dfnma rt, ra, rb` (R432). -/
def execDfnma (rt : RegNum) (ra : RegNum) (rb : RegNum) (s : State) : Outcome :=
  fpResult (.dfnma rt ra rb) rt [s.reg ra, s.reg rb, s.reg rt] (dwords3 (Config.dfnma s.fpscr) (s.reg ra) (s.reg rb) (s.reg rt)) s

/-- `dfnms rt, ra, rb` (R433). -/
def execDfnms (rt : RegNum) (ra : RegNum) (rb : RegNum) (s : State) : Outcome :=
  fpResult (.dfnms rt ra rb) rt [s.reg ra, s.reg rb, s.reg rt] (dwords3 (Config.dfnms s.fpscr) (s.reg ra) (s.reg rb) (s.reg rt)) s

/-- `dfs rt, ra, rb` (R434). -/
def execDfs (rt : RegNum) (ra : RegNum) (rb : RegNum) (s : State) : Outcome :=
  fpResult (.dfs rt ra rb) rt [s.reg ra, s.reg rb] (dwords2 (Config.dfsub s.fpscr) (s.reg ra) (s.reg rb)) s

/-- `fa rt, ra, rb` (R435). -/
def execFa (rt : RegNum) (ra : RegNum) (rb : RegNum) (s : State) : Outcome :=
  fpResult (.fa rt ra rb) rt [s.reg ra, s.reg rb] (words2 (Config.fadd32 s.fpscr) (s.reg ra) (s.reg rb)) s

/-- `fceq rt, ra, rb` (R436). -/
def execFceq (rt : RegNum) (ra : RegNum) (rb : RegNum) (s : State) : Outcome :=
  fpResult (.fceq rt ra rb) rt [s.reg ra, s.reg rb] (words2 (fun a b => maskWord (Config.fceq32 s.fpscr a b)) (s.reg ra) (s.reg rb)) s

/-- `fcgt rt, ra, rb` (R437). -/
def execFcgt (rt : RegNum) (ra : RegNum) (rb : RegNum) (s : State) : Outcome :=
  fpResult (.fcgt rt ra rb) rt [s.reg ra, s.reg rb] (words2 (fun a b => maskWord (Config.fcgt32 s.fpscr a b)) (s.reg ra) (s.reg rb)) s

/-- `fcmeq rt, ra, rb` (R438). -/
def execFcmeq (rt : RegNum) (ra : RegNum) (rb : RegNum) (s : State) : Outcome :=
  fpResult (.fcmeq rt ra rb) rt [s.reg ra, s.reg rb] (words2 (fun a b => maskWord (fcmeq32 s.fpscr a b)) (s.reg ra) (s.reg rb)) s

/-- `fcmgt rt, ra, rb` (R439). -/
def execFcmgt (rt : RegNum) (ra : RegNum) (rb : RegNum) (s : State) : Outcome :=
  fpResult (.fcmgt rt ra rb) rt [s.reg ra, s.reg rb] (words2 (fun a b => maskWord (fcmgt32 s.fpscr a b)) (s.reg ra) (s.reg rb)) s

/-- `fesd rt, ra` (R440). -/
def execFesd (rt : RegNum) (ra : RegNum) (s : State) : Outcome :=
  fpResult (.fesd rt ra) rt [s.reg ra] (ofDwords fun i => Config.fesd64 s.fpscr (wordAt (s.reg ra) (2 * i))) s

/-- `fi rt, ra, rb` (R441). -/
def execFi (rt : RegNum) (ra : RegNum) (rb : RegNum) (s : State) : Outcome :=
  fpResult (.fi rt ra rb) rt [s.reg ra, s.reg rb] (words2 (Config.fi32 s.fpscr) (s.reg ra) (s.reg rb)) s

/-- `fm rt, ra, rb` (R442). -/
def execFm (rt : RegNum) (ra : RegNum) (rb : RegNum) (s : State) : Outcome :=
  fpResult (.fm rt ra rb) rt [s.reg ra, s.reg rb] (words2 (Config.fmul32 s.fpscr) (s.reg ra) (s.reg rb)) s

/-- `fma rt, ra, rb, rc` (R443). -/
def execFma (rt : RegNum) (ra : RegNum) (rb : RegNum) (rc : RegNum) (s : State) : Outcome :=
  fpResult (.fma rt ra rb rc) rt [s.reg ra, s.reg rb, s.reg rc] (words3 (Config.fma32 s.fpscr) (s.reg ra) (s.reg rb) (s.reg rc)) s

/-- `fms rt, ra, rb, rc` (R444). -/
def execFms (rt : RegNum) (ra : RegNum) (rb : RegNum) (rc : RegNum) (s : State) : Outcome :=
  fpResult (.fms rt ra rb rc) rt [s.reg ra, s.reg rb, s.reg rc] (words3 (Config.fms32 s.fpscr) (s.reg ra) (s.reg rb) (s.reg rc)) s

/-- `fnms rt, ra, rb, rc` (R445). -/
def execFnms (rt : RegNum) (ra : RegNum) (rb : RegNum) (rc : RegNum) (s : State) : Outcome :=
  fpResult (.fnms rt ra rb rc) rt [s.reg ra, s.reg rb, s.reg rc] (words3 (Config.fnms32 s.fpscr) (s.reg ra) (s.reg rb) (s.reg rc)) s

/-- `frds rt, ra` (R446). -/
def execFrds (rt : RegNum) (ra : RegNum) (s : State) : Outcome :=
  fpResult (.frds rt ra) rt [s.reg ra] (dwords1 (fun d => Config.frds32 s.fpscr d ++ 0#32) (s.reg ra)) s

/-- `frest rt, ra` (R447). -/
def execFrest (rt : RegNum) (ra : RegNum) (s : State) : Outcome :=
  fpResult (.frest rt ra) rt [s.reg ra] (words1 (Config.frest32 s.fpscr) (s.reg ra)) s

/-- `frsqest rt, ra` (R448). -/
def execFrsqest (rt : RegNum) (ra : RegNum) (s : State) : Outcome :=
  fpResult (.frsqest rt ra) rt [s.reg ra] (words1 (Config.frsqest32 s.fpscr) (s.reg ra)) s

/-- `fs rt, ra, rb` (R449). -/
def execFs (rt : RegNum) (ra : RegNum) (rb : RegNum) (s : State) : Outcome :=
  fpResult (.fs rt ra rb) rt [s.reg ra, s.reg rb] (words2 (Config.fsub32 s.fpscr) (s.reg ra) (s.reg rb)) s

/-- `fscrrd rt` (R450). -/
def execFscrrd (rt : RegNum) (s : State) : Outcome := writeResult rt s.fpscr s

/-- `fscrwr ra or fscrwr rc, ra` (R451): rc is a pseudo target. -/
def execFscrwr (_rc : RegNum) (ra : RegNum) (s : State) : Outcome :=
  continueNext { s with
    fpscr := (s.reg ra &&& Config.fpscrWriteMask) ||| (s.fpscr &&& ~~~Config.fpscrWriteMask) }

end Sys2Proof.Machine
end

