-- ==== Sys2Proof/Machine/IntArith.lean ====
section
/-! DEFINITION. Integer arithmetic (R200 to R235). Sums, differences and products wrap at the element width (R200). One meaning for each instruction. -/

namespace Sys2Proof.Machine

/-- `absdb` on one byte: the absolute difference of the unsigned values (R204). -/
def absDiff (a b : Byte) : Byte := BitVec.ofNat 8 ((b.toNat : Int) - a.toNat).natAbs

/-- `avgb` on one byte: the average of the unsigned values, rounded up (R209). -/
def average (a b : Byte) : Byte := BitVec.ofNat 8 ((a.toNat + b.toNat + 1) / 2)

/-- `cgx` on one word: the carry out of the sum with a carry in (R213). -/
def carryExtended (a b t : Word) : Word := carryOut (a.toNat + b.toNat + carryIn t)

/-- `bgx` on one word: the inverse borrow of rb minus ra with a borrow in (R211). -/
def borrowExtended (a b t : Word) : Word := noBorrow ((b.toNat : Int) - a.toNat - borrowIn t)

/-- `sfx` on one word: rb minus ra minus the borrow in (R231). -/
def subExtended (a b t : Word) : Word := b - a - BitVec.ofNat 32 (borrowIn t)

/-- The number of 0 bits from bit `n - 1` of a word downwards before the first 1, among the low `n` bits (R214). -/
def leadingZeros (w : Word) : Nat → Nat
  | 0 => 0
  | n + 1 => if w.getLsbD n then 0 else 1 + leadingZeros w n

/-- The number of 1 bits among the low `n` bits of a byte (R215). -/
def onesIn (b : Byte) : Nat → Nat
  | 0 => 0
  | n + 1 => (if b.getLsbD n then 1 else 0) + onesIn b n

/-- The product of two halfwords as signed integers (R216). -/
def signedProduct (a b : Half) : Word := BitVec.ofInt 32 (a.toInt * b.toInt)

/-- The product of two halfwords as unsigned integers (R225). -/
def unsignedProduct (a b : Half) : Word := BitVec.ofNat 32 (a.toNat * b.toNat)

/-- `mpyh` on one word: the high half of a times the low half of b, shifted left by 16 (R218). -/
def highProduct (a b : Word) : Word := BitVec.ofNat 32 ((highHalf a).toNat * (lowHalf b).toNat * 2 ^ 16)

/-- `mpys` on one word: the upper half of the product of the halves that `MPYS_HALVES` names, sign-extended (R224; the choice
of halves is open, log 11). -/
def productUpper (h : Config.Halves) (a b : Word) : Word :=
  match h with
  | .upper => (highHalf (signedProduct (highHalf a) (highHalf b))).signExtend 32
  | .lower => (highHalf (signedProduct (lowHalf a) (lowHalf b))).signExtend 32

/-- The sum of the four bytes of word element i (R232). -/
def sumOfBytes (q : Quad) (i : Nat) : Half :=
  BitVec.ofNat 16 ((byteAt q (4 * i)).toNat + (byteAt q (4 * i + 1)).toNat + (byteAt q (4 * i + 2)).toNat
    + (byteAt q (4 * i + 3)).toNat)

/-- `a rt, ra, rb` (R203). -/
def execA (rt : RegNum) (ra : RegNum) (rb : RegNum) (s : State) : Outcome :=
  writeResult rt (words2 (· + ·) (s.reg ra) (s.reg rb)) s

/-- `absdb rt, ra, rb` (R204). -/
def execAbsdb (rt : RegNum) (ra : RegNum) (rb : RegNum) (s : State) : Outcome :=
  writeResult rt (bytes2 absDiff (s.reg ra) (s.reg rb)) s

/-- `addx rt, ra, rb` (R205). -/
def execAddx (rt : RegNum) (ra : RegNum) (rb : RegNum) (s : State) : Outcome :=
  writeResult rt (words3 (fun a b t => a + b + BitVec.ofNat 32 (carryIn t)) (s.reg ra) (s.reg rb) (s.reg rt)) s

/-- `ah rt, ra, rb` (R206). -/
def execAh (rt : RegNum) (ra : RegNum) (rb : RegNum) (s : State) : Outcome :=
  writeResult rt (halfs2 (· + ·) (s.reg ra) (s.reg rb)) s

/-- `ahi rt, ra, s10` (R207). -/
def execAhi (rt : RegNum) (ra : RegNum) (s10 : BitVec 10) (s : State) : Outcome :=
  writeResult rt (halfs1 (· + s10Half s10) (s.reg ra)) s

/-- `ai rt, ra, s10` (R208). -/
def execAi (rt : RegNum) (ra : RegNum) (s10 : BitVec 10) (s : State) : Outcome :=
  writeResult rt (words1 (· + s10Word s10) (s.reg ra)) s

/-- `avgb rt, ra, rb` (R209). -/
def execAvgb (rt : RegNum) (ra : RegNum) (rb : RegNum) (s : State) : Outcome :=
  writeResult rt (bytes2 average (s.reg ra) (s.reg rb)) s

/-- `bg rt, ra, rb` (R210). -/
def execBg (rt : RegNum) (ra : RegNum) (rb : RegNum) (s : State) : Outcome :=
  writeResult rt (words2 (fun a b => noBorrow ((b.toNat : Int) - a.toNat)) (s.reg ra) (s.reg rb)) s

/-- `bgx rt, ra, rb` (R211). -/
def execBgx (rt : RegNum) (ra : RegNum) (rb : RegNum) (s : State) : Outcome :=
  writeResult rt (words3 borrowExtended (s.reg ra) (s.reg rb) (s.reg rt)) s

/-- `cg rt, ra, rb` (R212). -/
def execCg (rt : RegNum) (ra : RegNum) (rb : RegNum) (s : State) : Outcome :=
  writeResult rt (words2 (fun a b => carryOut (a.toNat + b.toNat)) (s.reg ra) (s.reg rb)) s

/-- `cgx rt, ra, rb` (R213). -/
def execCgx (rt : RegNum) (ra : RegNum) (rb : RegNum) (s : State) : Outcome :=
  writeResult rt (words3 carryExtended (s.reg ra) (s.reg rb) (s.reg rt)) s

/-- `clz rt, ra` (R214). -/
def execClz (rt : RegNum) (ra : RegNum) (s : State) : Outcome :=
  writeResult rt (words1 (fun a => BitVec.ofNat 32 (leadingZeros a 32)) (s.reg ra)) s

/-- `cntb rt, ra` (R215). -/
def execCntb (rt : RegNum) (ra : RegNum) (s : State) : Outcome :=
  writeResult rt (bytes1 (fun a => BitVec.ofNat 8 (onesIn a 8)) (s.reg ra)) s

/-- `mpy rt, ra, rb` (R216). -/
def execMpy (rt : RegNum) (ra : RegNum) (rb : RegNum) (s : State) : Outcome :=
  writeResult rt (words2 (fun a b => signedProduct (lowHalf a) (lowHalf b)) (s.reg ra) (s.reg rb)) s

/-- `mpya rt, ra, rb, rc` (R217). -/
def execMpya (rt : RegNum) (ra : RegNum) (rb : RegNum) (rc : RegNum) (s : State) : Outcome :=
  writeResult rt (words3 (fun a b c => signedProduct (lowHalf a) (lowHalf b) + c) (s.reg ra) (s.reg rb) (s.reg rc)) s

/-- `mpyh rt, ra, rb` (R218). -/
def execMpyh (rt : RegNum) (ra : RegNum) (rb : RegNum) (s : State) : Outcome :=
  writeResult rt (words2 highProduct (s.reg ra) (s.reg rb)) s

/-- `mpyhh rt, ra, rb` (R219). -/
def execMpyhh (rt : RegNum) (ra : RegNum) (rb : RegNum) (s : State) : Outcome :=
  writeResult rt (words2 (fun a b => signedProduct (highHalf a) (highHalf b)) (s.reg ra) (s.reg rb)) s

/-- `mpyhha rt, ra, rb` (R220). -/
def execMpyhha (rt : RegNum) (ra : RegNum) (rb : RegNum) (s : State) : Outcome :=
  writeResult rt (words3 (fun a b t => signedProduct (highHalf a) (highHalf b) + t) (s.reg ra) (s.reg rb) (s.reg rt)) s

/-- `mpyhhau rt, ra, rb` (R221). -/
def execMpyhhau (rt : RegNum) (ra : RegNum) (rb : RegNum) (s : State) : Outcome :=
  writeResult rt (words3 (fun a b t => unsignedProduct (highHalf a) (highHalf b) + t) (s.reg ra) (s.reg rb) (s.reg rt)) s

/-- `mpyhhu rt, ra, rb` (R222). -/
def execMpyhhu (rt : RegNum) (ra : RegNum) (rb : RegNum) (s : State) : Outcome :=
  writeResult rt (words2 (fun a b => unsignedProduct (highHalf a) (highHalf b)) (s.reg ra) (s.reg rb)) s

/-- `mpyi rt, ra, s10` (R223; signed: decision D29, log 2). -/
def execMpyi (rt : RegNum) (ra : RegNum) (s10 : BitVec 10) (s : State) : Outcome :=
  writeResult rt (words1 (fun a => signedProduct (lowHalf a) (s10Half s10)) (s.reg ra)) s

/-- `mpys rt, ra, rb` (R224; the halves, their sign and the upper half of the result: log 11). -/
def execMpys (rt : RegNum) (ra : RegNum) (rb : RegNum) (s : State) : Outcome :=
  writeResult rt (words2 (productUpper Config.mpysHalves) (s.reg ra) (s.reg rb)) s

/-- `mpyu rt, ra, rb` (R225). -/
def execMpyu (rt : RegNum) (ra : RegNum) (rb : RegNum) (s : State) : Outcome :=
  writeResult rt (words2 (fun a b => unsignedProduct (lowHalf a) (lowHalf b)) (s.reg ra) (s.reg rb)) s

/-- `mpyui rt, ra, s10` (R226; the extension of s10: decision D29, log 2). -/
def execMpyui (rt : RegNum) (ra : RegNum) (s10 : BitVec 10) (s : State) : Outcome :=
  writeResult rt (words1 (fun a => unsignedProduct (lowHalf a) (s10Half s10)) (s.reg ra)) s

/-- `sf rt, ra, rb` (R227). -/
def execSf (rt : RegNum) (ra : RegNum) (rb : RegNum) (s : State) : Outcome :=
  writeResult rt (words2 (fun a b => b - a) (s.reg ra) (s.reg rb)) s

/-- `sfh rt, ra, rb` (R228). -/
def execSfh (rt : RegNum) (ra : RegNum) (rb : RegNum) (s : State) : Outcome :=
  writeResult rt (halfs2 (fun a b => b - a) (s.reg ra) (s.reg rb)) s

/-- `sfhi rt, ra, s10` (R229). -/
def execSfhi (rt : RegNum) (ra : RegNum) (s10 : BitVec 10) (s : State) : Outcome :=
  writeResult rt (halfs1 (fun a => s10Half s10 - a) (s.reg ra)) s

/-- `sfi rt, ra, s10` (R230). -/
def execSfi (rt : RegNum) (ra : RegNum) (s10 : BitVec 10) (s : State) : Outcome :=
  writeResult rt (words1 (fun a => s10Word s10 - a) (s.reg ra)) s

/-- `sfx rt, ra, rb` (R231). -/
def execSfx (rt : RegNum) (ra : RegNum) (rb : RegNum) (s : State) : Outcome :=
  writeResult rt (words3 subExtended (s.reg ra) (s.reg rb) (s.reg rt)) s

/-- `sumb rt, ra, rb` (R232). -/
def execSumb (rt : RegNum) (ra : RegNum) (rb : RegNum) (s : State) : Outcome :=
  writeResult rt (ofWords fun i => sumOfBytes (s.reg rb) i ++ sumOfBytes (s.reg ra) i) s

/-- `xsbh rt, ra` (R233). -/
def execXsbh (rt : RegNum) (ra : RegNum) (s : State) : Outcome :=
  writeResult rt (halfs1 (fun a => (a.extractLsb' 0 8).signExtend 16) (s.reg ra)) s

/-- `xshw rt, ra` (R234). -/
def execXshw (rt : RegNum) (ra : RegNum) (s : State) : Outcome :=
  writeResult rt (words1 (fun a => (lowHalf a).signExtend 32) (s.reg ra)) s

/-- `xswd rt, ra` (R235). -/
def execXswd (rt : RegNum) (ra : RegNum) (s : State) : Outcome :=
  writeResult rt (dwords1 (fun a => (a.extractLsb' 0 32).signExtend 64) (s.reg ra)) s

end Sys2Proof.Machine
end

