-- ==== Sys2Proof/Machine/LoadStore.lean ====
section
/-! DEFINITION. Loads and stores (R400 to R409). One meaning for each instruction. -/

namespace Sys2Proof.Machine

/-- `lqa rt, s18` (R402). -/
def execLqa (rt : RegNum) (s18 : BitVec 18) (s : State) : Outcome := loadFrom rt (s18Word s18) s

/-- `lqd rt, s14(ra)` (R403). -/
def execLqd (rt : RegNum) (s14 : BitVec 14) (ra : RegNum) (s : State) : Outcome :=
  loadFrom rt (s.scalarReg ra + s14Word s14) s

/-- `lqr rt, s18` (R404). -/
def execLqr (rt : RegNum) (s18 : BitVec 18) (s : State) : Outcome := loadFrom rt (s.pc + s18Word s18) s

/-- `lqx rt, ra, rb` (R405). -/
def execLqx (rt : RegNum) (ra : RegNum) (rb : RegNum) (s : State) : Outcome :=
  loadFrom rt (s.scalarReg ra + s.scalarReg rb) s

/-- `stqa rc, s18` (R406). -/
def execStqa (rc : RegNum) (s18 : BitVec 18) (s : State) : Outcome := storeTo rc (s18Word s18) s

/-- `stqd rc, s14(ra)` (R407). -/
def execStqd (rc : RegNum) (s14 : BitVec 14) (ra : RegNum) (s : State) : Outcome :=
  storeTo rc (s.scalarReg ra + s14Word s14) s

/-- `stqr rc, s18` (R408). -/
def execStqr (rc : RegNum) (s18 : BitVec 18) (s : State) : Outcome := storeTo rc (s.pc + s18Word s18) s

/-- `stqx rc, ra, rb` (R409). -/
def execStqx (rc : RegNum) (ra : RegNum) (rb : RegNum) (s : State) : Outcome :=
  storeTo rc (s.scalarReg ra + s.scalarReg rb) s

end Sys2Proof.Machine
end

