-- ==== Sys2Proof/Machine/Logical.lean ====
section
/-! DEFINITION. Logical instructions (R240 to R259). One meaning for each instruction. -/

namespace Sys2Proof.Machine

/-- `and rt, ra, rb` (R241). -/
def execAnd (rt : RegNum) (ra : RegNum) (rb : RegNum) (s : State) : Outcome := writeResult rt (s.reg ra &&& s.reg rb) s

/-- `andbi rt, ra, s10` (R242). -/
def execAndbi (rt : RegNum) (ra : RegNum) (s10 : BitVec 10) (s : State) : Outcome :=
  writeResult rt (bytes1 (· &&& s10Byte s10) (s.reg ra)) s

/-- `andc rt, ra, rb` (R243). -/
def execAndc (rt : RegNum) (ra : RegNum) (rb : RegNum) (s : State) : Outcome := writeResult rt (s.reg ra &&& ~~~(s.reg rb)) s

/-- `andhi rt, ra, s10` (R244). -/
def execAndhi (rt : RegNum) (ra : RegNum) (s10 : BitVec 10) (s : State) : Outcome :=
  writeResult rt (halfs1 (· &&& s10Half s10) (s.reg ra)) s

/-- `andi rt, ra, s10` (R245). -/
def execAndi (rt : RegNum) (ra : RegNum) (s10 : BitVec 10) (s : State) : Outcome :=
  writeResult rt (words1 (· &&& s10Word s10) (s.reg ra)) s

/-- `eqv rt, ra, rb` (R246). -/
def execEqv (rt : RegNum) (ra : RegNum) (rb : RegNum) (s : State) : Outcome := writeResult rt (~~~(s.reg ra ^^^ s.reg rb)) s

/-- `nand rt, ra, rb` (R247). -/
def execNand (rt : RegNum) (ra : RegNum) (rb : RegNum) (s : State) : Outcome := writeResult rt (~~~(s.reg ra &&& s.reg rb)) s

/-- `nor rt, ra, rb` (R248). -/
def execNor (rt : RegNum) (ra : RegNum) (rb : RegNum) (s : State) : Outcome := writeResult rt (~~~(s.reg ra ||| s.reg rb)) s

/-- `or rt, ra, rb` (R249). -/
def execOr (rt : RegNum) (ra : RegNum) (rb : RegNum) (s : State) : Outcome := writeResult rt (s.reg ra ||| s.reg rb) s

/-- `orbi rt, ra, s10` (R250). -/
def execOrbi (rt : RegNum) (ra : RegNum) (s10 : BitVec 10) (s : State) : Outcome :=
  writeResult rt (bytes1 (· ||| s10Byte s10) (s.reg ra)) s

/-- `orc rt, ra, rb` (R251). -/
def execOrc (rt : RegNum) (ra : RegNum) (rb : RegNum) (s : State) : Outcome := writeResult rt (s.reg ra ||| ~~~(s.reg rb)) s

/-- `orhi rt, ra, s10` (R252). -/
def execOrhi (rt : RegNum) (ra : RegNum) (s10 : BitVec 10) (s : State) : Outcome :=
  writeResult rt (halfs1 (· ||| s10Half s10) (s.reg ra)) s

/-- `ori rt, ra, s10` (R253). -/
def execOri (rt : RegNum) (ra : RegNum) (s10 : BitVec 10) (s : State) : Outcome :=
  writeResult rt (words1 (· ||| s10Word s10) (s.reg ra)) s

/-- `orx rt, ra` (R254). -/
def execOrx (rt : RegNum) (ra : RegNum) (s : State) : Outcome :=
  writeResult rt (inWord0 (wordAt (s.reg ra) 0 ||| wordAt (s.reg ra) 1 ||| wordAt (s.reg ra) 2 ||| wordAt (s.reg ra) 3)) s

/-- `selb rt, ra, rb, rc` (R255). -/
def execSelb (rt : RegNum) (ra : RegNum) (rb : RegNum) (rc : RegNum) (s : State) : Outcome :=
  writeResult rt ((s.reg ra &&& ~~~(s.reg rc)) ||| (s.reg rb &&& s.reg rc)) s

/-- `xor rt, ra, rb` (R256). -/
def execXor (rt : RegNum) (ra : RegNum) (rb : RegNum) (s : State) : Outcome := writeResult rt (s.reg ra ^^^ s.reg rb) s

/-- `xorbi rt, ra, s10` (R257). -/
def execXorbi (rt : RegNum) (ra : RegNum) (s10 : BitVec 10) (s : State) : Outcome :=
  writeResult rt (bytes1 (· ^^^ s10Byte s10) (s.reg ra)) s

/-- `xorhi rt, ra, s10` (R258). -/
def execXorhi (rt : RegNum) (ra : RegNum) (s10 : BitVec 10) (s : State) : Outcome :=
  writeResult rt (halfs1 (· ^^^ s10Half s10) (s.reg ra)) s

/-- `xori rt, ra, s10` (R259). -/
def execXori (rt : RegNum) (ra : RegNum) (s10 : BitVec 10) (s : State) : Outcome :=
  writeResult rt (words1 (· ^^^ s10Word s10) (s.reg ra)) s

end Sys2Proof.Machine
end

