-- ==== Sys2Proof/Machine/ShiftRotate.lean ====
section
/-! DEFINITION. Shifts and rotates (R290 to R322). One meaning for each instruction. -/

namespace Sys2Proof.Machine

/-- The distance of a rotate and mask: the two's complement of the count, modulo the count field (R291 b). -/
def negated (count width : Nat) : Nat := (2 ^ width - count % 2 ^ width) % 2 ^ width

/-- `ROTL_N`: rotation to the left by a count modulo the width (R290). -/
def rotl {w : Nat} (v : BitVec w) (n : Nat) : BitVec w := v.rotateLeft n

/-- A shift to the left; a distance at or above the width gives 0 (R291 a). -/
def shl {w : Nat} (v : BitVec w) (n : Nat) : BitVec w := if n < w then v <<< n else 0

/-- A shift to the right that fills with 0; a distance at or above the width gives 0 (R291 b). -/
def shr {w : Nat} (v : BitVec w) (n : Nat) : BitVec w := if n < w then v >>> n else 0

/-- A shift to the right that fills with the sign; a distance at or above the width gives copies of the sign (R291 c). -/
def sar {w : Nat} (v : BitVec w) (n : Nat) : BitVec w := v.sshiftRight (min n (w - 1))

/-- The count that a quadword shift takes from word element 0 of rb: `width` bits above the lowest `lo` (R291 d, e). -/
def State.quadCount (s : State) (rb : RegNum) (lo width : Nat) : Nat := bitField (s.scalarReg rb) lo width

/-- The distance of `rotqmbybi` in bytes, from the field that `ROTQMBYBI_FIELD` names (R312; log 10). -/
def rotqmbybiDistance (f : Config.RotqmbybiField) (count : Word) : Nat :=
  match f with
  | .bits24to28 => negated (bitField count 3 5) 5
  | .bits25to28 => negated (bitField count 3 4) 4

/-- `rot rt, ra, rb` (R292). -/
def execRot (rt : RegNum) (ra : RegNum) (rb : RegNum) (s : State) : Outcome :=
  writeResult rt (words2 (fun a b => rotl a (b.toNat % 32)) (s.reg ra) (s.reg rb)) s

/-- `roth rt, ra, rb` (R293). -/
def execRoth (rt : RegNum) (ra : RegNum) (rb : RegNum) (s : State) : Outcome :=
  writeResult rt (halfs2 (fun a b => rotl a (b.toNat % 16)) (s.reg ra) (s.reg rb)) s

/-- `rothi rt, ra, s7` (R294). -/
def execRothi (rt : RegNum) (ra : RegNum) (s7 : BitVec 7) (s : State) : Outcome :=
  writeResult rt (halfs1 (fun a => rotl a (immCount s7 4)) (s.reg ra)) s

/-- `rothm rt, ra, rb` (R295). -/
def execRothm (rt : RegNum) (ra : RegNum) (rb : RegNum) (s : State) : Outcome :=
  writeResult rt (halfs2 (fun a b => shr a (negated b.toNat 5)) (s.reg ra) (s.reg rb)) s

/-- `rothmi rt, ra, s6` (R296). -/
def execRothmi (rt : RegNum) (ra : RegNum) (s6 : BitVec 7) (s : State) : Outcome :=
  writeResult rt (halfs1 (fun a => shr a (negated s6.toNat 5)) (s.reg ra)) s

/-- `roti rt, ra, s7` (R297). -/
def execRoti (rt : RegNum) (ra : RegNum) (s7 : BitVec 7) (s : State) : Outcome :=
  writeResult rt (words1 (fun a => rotl a (immCount s7 5)) (s.reg ra)) s

/-- `rotm rt, ra, rb` (R298). -/
def execRotm (rt : RegNum) (ra : RegNum) (rb : RegNum) (s : State) : Outcome :=
  writeResult rt (words2 (fun a b => shr a (negated b.toNat 6)) (s.reg ra) (s.reg rb)) s

/-- `rotma rt, ra, rb` (R299). -/
def execRotma (rt : RegNum) (ra : RegNum) (rb : RegNum) (s : State) : Outcome :=
  writeResult rt (words2 (fun a b => sar a (negated b.toNat 6)) (s.reg ra) (s.reg rb)) s

/-- `rotmah rt, ra, rb` (R300). -/
def execRotmah (rt : RegNum) (ra : RegNum) (rb : RegNum) (s : State) : Outcome :=
  writeResult rt (halfs2 (fun a b => sar a (negated b.toNat 5)) (s.reg ra) (s.reg rb)) s

/-- `rotmahi rt, ra, s6` (R301). -/
def execRotmahi (rt : RegNum) (ra : RegNum) (s6 : BitVec 7) (s : State) : Outcome :=
  writeResult rt (halfs1 (fun a => sar a (negated s6.toNat 5)) (s.reg ra)) s

/-- `rotmai rt, ra, s7` (R302). -/
def execRotmai (rt : RegNum) (ra : RegNum) (s7 : BitVec 7) (s : State) : Outcome :=
  writeResult rt (words1 (fun a => sar a (negated s7.toNat 6)) (s.reg ra)) s

/-- `rotmi rt, ra, s7` (R303). -/
def execRotmi (rt : RegNum) (ra : RegNum) (s7 : BitVec 7) (s : State) : Outcome :=
  writeResult rt (words1 (fun a => shr a (negated s7.toNat 6)) (s.reg ra)) s

/-- `rotqbi rt, ra, rb` (R304). -/
def execRotqbi (rt : RegNum) (ra : RegNum) (rb : RegNum) (s : State) : Outcome :=
  writeResult rt (rotl (s.reg ra) (s.quadCount rb 0 3)) s

/-- `rotqbii rt, ra, u3` (R305). -/
def execRotqbii (rt : RegNum) (ra : RegNum) (u3 : BitVec 7) (s : State) : Outcome :=
  writeResult rt (rotl (s.reg ra) (immCount u3 3)) s

/-- `rotqby rt, ra, rb` (R306). -/
def execRotqby (rt : RegNum) (ra : RegNum) (rb : RegNum) (s : State) : Outcome :=
  writeResult rt (rotl (s.reg ra) (8 * s.quadCount rb 0 4)) s

/-- `rotqbybi rt, ra, rb` (R307). -/
def execRotqbybi (rt : RegNum) (ra : RegNum) (rb : RegNum) (s : State) : Outcome :=
  writeResult rt (rotl (s.reg ra) (8 * (s.quadCount rb 3 5 % 16))) s

/-- `rotqbyi rt, ra, s7` (R308). -/
def execRotqbyi (rt : RegNum) (ra : RegNum) (s7 : BitVec 7) (s : State) : Outcome :=
  writeResult rt (rotl (s.reg ra) (8 * immCount s7 4)) s

/-- `rotqmbi rt, ra, rb` (R309). -/
def execRotqmbi (rt : RegNum) (ra : RegNum) (rb : RegNum) (s : State) : Outcome :=
  writeResult rt (shr (s.reg ra) (negated (s.quadCount rb 0 3) 3)) s

/-- `rotqmbii rt, ra, s3` (R310). -/
def execRotqmbii (rt : RegNum) (ra : RegNum) (s3 : BitVec 7) (s : State) : Outcome :=
  writeResult rt (shr (s.reg ra) (negated s3.toNat 3)) s

/-- `rotqmby rt, ra, rb` (R311). -/
def execRotqmby (rt : RegNum) (ra : RegNum) (rb : RegNum) (s : State) : Outcome :=
  writeResult rt (shr (s.reg ra) (8 * negated (s.quadCount rb 0 5) 5)) s

/-- `rotqmbybi rt, ra, rb` (R312). -/
def execRotqmbybi (rt : RegNum) (ra : RegNum) (rb : RegNum) (s : State) : Outcome :=
  writeResult rt (shr (s.reg ra) (8 * rotqmbybiDistance Config.rotqmbybiField (s.scalarReg rb))) s

/-- `rotqmbyi rt, ra, s6` (R313). -/
def execRotqmbyi (rt : RegNum) (ra : RegNum) (s6 : BitVec 7) (s : State) : Outcome :=
  writeResult rt (shr (s.reg ra) (8 * negated s6.toNat 5)) s

/-- `shl rt, ra, rb` (R314). -/
def execShl (rt : RegNum) (ra : RegNum) (rb : RegNum) (s : State) : Outcome :=
  writeResult rt (words2 (fun a b => shl a (bitField b 0 6)) (s.reg ra) (s.reg rb)) s

/-- `shlh rt, ra, rb` (R315). -/
def execShlh (rt : RegNum) (ra : RegNum) (rb : RegNum) (s : State) : Outcome :=
  writeResult rt (halfs2 (fun a b => shl a (b.toNat % 32)) (s.reg ra) (s.reg rb)) s

/-- `shlhi rt, ra, u5` (R316). -/
def execShlhi (rt : RegNum) (ra : RegNum) (u5 : BitVec 7) (s : State) : Outcome :=
  writeResult rt (halfs1 (fun a => shl a (immCount u5 5)) (s.reg ra)) s

/-- `shli rt, ra, u6` (R317). -/
def execShli (rt : RegNum) (ra : RegNum) (u6 : BitVec 7) (s : State) : Outcome :=
  writeResult rt (words1 (fun a => shl a (immCount u6 6)) (s.reg ra)) s

/-- `shlqbi rt, ra, rb` (R318). -/
def execShlqbi (rt : RegNum) (ra : RegNum) (rb : RegNum) (s : State) : Outcome :=
  writeResult rt (shl (s.reg ra) (s.quadCount rb 0 3)) s

/-- `shlqbii rt, ra, u3` (R319). -/
def execShlqbii (rt : RegNum) (ra : RegNum) (u3 : BitVec 7) (s : State) : Outcome :=
  writeResult rt (shl (s.reg ra) (immCount u3 3)) s

/-- `shlqby rt, ra, rb` (R320). -/
def execShlqby (rt : RegNum) (ra : RegNum) (rb : RegNum) (s : State) : Outcome :=
  writeResult rt (shl (s.reg ra) (8 * s.quadCount rb 0 5)) s

/-- `shlqbybi rt, ra, rb` (R321). -/
def execShlqbybi (rt : RegNum) (ra : RegNum) (rb : RegNum) (s : State) : Outcome :=
  writeResult rt (shl (s.reg ra) (8 * s.quadCount rb 3 5)) s

/-- `shlqbyi rt, ra, u5` (R322). -/
def execShlqbyi (rt : RegNum) (ra : RegNum) (u5 : BitVec 7) (s : State) : Outcome :=
  writeResult rt (shl (s.reg ra) (8 * immCount u5 5)) s

end Sys2Proof.Machine
end

