-- ==== Sys2Proof/Machine/Environment.lean ====
section
/-! DEFINITION. What the agents outside the instruction stream do to the state between two instructions (R43 to R52, R82,
R505, R507, R509; log 21). -/

namespace Sys2Proof.Machine

/-- The bit of an event in the event words; 0 where the machine has no such event (R505; log 20). -/
def eventWord (e : Config.Event) : Word :=
  match Config.eventBit e with
  | some k => 1#32 <<< k.val
  | none => 0

/-- An event becomes pending and stays so until it is acknowledged (R507). -/
def State.raiseEvent (s : State) (e : Config.Event) : State :=
  { s with eventPending := s.eventPending ||| eventWord e }

/-- A word enters the inbound mailbox and its event occurs; a full mailbox takes nothing (R50, R505; DESIGN CHOICE, log 33). -/
def State.mailIn (s : State) (w : Word) : State :=
  if s.inMbox.length < Config.inMboxDepth then { s with inMbox := s.inMbox ++ [w] }.raiseEvent .inMbox else s

/-- The other side reads the outbound mailbox (R50, R505). -/
def State.takeOutMbox (s : State) : State :=
  match s.outMbox with
  | some _ => { s with outMbox := none }.raiseEvent .outMbox
  | none => s

/-- The other side reads the outbound interrupt mailbox (R50, R505). -/
def State.takeOutIntrMbox (s : State) : State :=
  match s.outIntrMbox with
  | some _ => { s with outIntrMbox := none }.raiseEvent .outIntrMbox
  | none => s

/-- The MFC answers an outstanding tag-status update request (R52, R505).  DESIGN CHOICE: an answer with no request outstanding
is dropped; R516 is silent on it (log 37). -/
def State.answerTagUpdate (s : State) (w : Word) : State :=
  match s.mfc.tagUpdate with
  | some _ => { s with mfc := { s.mfc with tagUpdate := none, tagStat := some w } }.raiseEvent .tagStatus
  | none => s

/-- An outstanding multisource synchronization completes (R87, R505).  DESIGN CHOICE: with none outstanding nothing happens
(log 37). -/
def State.finishMsSync (s : State) : State :=
  match s.mfc.msSyncReq with
  | some _ => { s with mfc := { s.mfc with msSyncReq := none } }.raiseEvent .msSync
  | none => s

/-- A command leaves the MFC queue (R52, R505); its transfer is over only when the program has observed so (R82). -/
def State.finishDma (s : State) (n : Nat) : State :=
  if n < s.mfc.queue.length then
    { s with mfc := { s.mfc with queue := s.mfc.queue.eraseIdx n } }.raiseEvent .commandQueue
  else s

/-- Another agent writes a byte of local storage; a fetch of the word it lies in must wait for a `sync` (R80, R82, R561). -/
def State.agentByte (s : State) (addr : Nat) (b : Byte) : State :=
  if addr < Config.lsSize then
    { s with mem := s.mem.write addr b, unsynced := s.unsynced.insert (addr / 4 * 4) }
  else s

/-- Another agent writes some bytes of local storage. -/
def State.agentBytes (s : State) (cells : List Host.Cell) : State := cells.foldl (fun s c => s.agentByte c.1 c.2) s

/-- The addresses that an access of another agent to `addr` reaches: the byte, or its quadword where an access to it is
indivisible (R83). -/
def accessAt (addr : Nat) : List Nat :=
  if Config.quadwordAtomic then (List.range 16).map (addr / 16 * 16 + ·) else [addr]

/-- The PPU side, or the DMA of another SPU, writes local storage in one access (R82 b, R83, R517 b). -/
def State.agentWrite (s : State) (addr : Nat) (bytes : List Byte) : State :=
  if bytes.length = (accessAt addr).length then s.agentBytes ((accessAt addr).zip bytes) else s

/-- The bytes of a transfer that the access to its byte `k` moves (R83). -/
def Transfer.access (t : Transfer) (k : Nat) : List Nat :=
  if Config.quadwordAtomic then (List.range t.size).filter fun j => t.addr j / 16 = t.addr k / 16 else [k]

/-- Whether a transfer may make the access to its byte `k` now: it moves data, and each byte is moved once (R82). -/
def Transfer.mayMove (t : Transfer) (k : Nat) : Bool :=
  t.kind ≠ .noTransfer ∧ k < t.size ∧ ∀ j ∈ t.access k, j ∉ t.moved

/-- The `n`th transfer makes the access to its byte `k` (R82 a). -/
def State.dmaMove (s : State) (n k : Nat) (bytes : List Byte) : State :=
  match s.mfc.transfers[n]? with
  | none => s
  | some t =>
    if t.mayMove k ∧ bytes.length = (t.access k).length then
      let moved : Transfer := { t with moved := t.access k ++ t.moved }
      let after : State := { s with mfc := { s.mfc with transfers := s.mfc.transfers.set n moved } }
      match t.kind with
      | .toStorage => after.agentBytes (((t.access k).map t.addr).zip bytes)
      | .fromStorage => after
      | .noTransfer => after
    else s

/-- What an action does (log 21).  DESIGN CHOICE: a list-stall or atomic status given while one waits unread replaces it, and so
does a signal; R516 is silent on it (logs 33 and 37). -/
def State.deliver (s : State) (a : EnvAction) : State :=
  match a with
  | .quiet => s
  | .raiseEvent e => s.raiseEvent e
  | .mailIn w => s.mailIn w
  | .signal1 w => { s with sigNotify1 := some w }.raiseEvent .signal1
  | .signal2 w => { s with sigNotify2 := some w }.raiseEvent .signal2
  | .takeOutMbox => s.takeOutMbox
  | .takeOutIntrMbox => s.takeOutIntrMbox
  | .tagStatus w => s.answerTagUpdate w
  | .listStall w => { s with mfc := { s.mfc with listStall := some w } }.raiseEvent .listStall
  | .atomicStatus w => { s with mfc := { s.mfc with atomicStat := some w } }
  | .msSyncDone => s.finishMsSync
  | .dmaDone n => s.finishDma n
  | .dmaMove n k bytes => s.dmaMove n k bytes
  | .agentWrite addr bytes => s.agentWrite addr bytes
  | .storeDone addr => { s with pendingStores := s.pendingStores.filter (· ≠ addr) }
  | .interrupt => if s.interruptible then s.takeInterrupt else s

end Sys2Proof.Machine
end

