-- ==== Sys2Proof/Machine/Step.lean ====
section
/-! DEFINITION. One step: the next action of the environment, or one instruction (R509, R570). -/

namespace Sys2Proof.Machine

/-- One instruction: fetch at the pc and execute it; a stopped or halted SPU executes nothing (R38, R76, R500, R501). -/
def runInstruction (s : State) : Host.Outcome State Fault Refusal :=
  match s.run with
  | .running =>
    match s.fetch with
    | .next i => exec i s
    | .fault r => .fault r
    | .refused r => .refused r
  | .stopped _ => .next s
  | .halted => .next s

/-- One step: an action of an outside agent that is due is delivered; where none is due, one instruction is executed
(log 21). -/
def step (s : State) : Host.Outcome State Fault Refusal :=
  match s.env with
  | [] => runInstruction s
  | .quiet :: later => runInstruction { s with env := later }
  | a :: later => .next ({ s with env := later }.deliver a)

/-- The state with an instruction stored where the next step fetches, and nothing that keeps the step from running it. -/
def State.withFetchWord (s : State) (nbits w : Nat) : State :=
  { s with
    mem := s.mem.writeBytes s.pc.toNat (bytesOfWord (BitVec.ofNat 32 (w % 2 ^ nbits)))
    unsynced := s.unsynced.filter (· ≠ s.pc.toNat / 4 * 4)
    run := .running
    env := [] }

end Sys2Proof.Machine
end

