-- ==== Sys2Proof/Laws/Encoding.lean ====
section
/-! SUPPORT. What the fields of an encoded word are: one lemma for each field of each format (R140), and the decoding of an
encoded word by its opcode. -/

namespace Sys2Proof.Laws

theorem encRR_prefix4 (op : BitVec 11) (b : BitVec 7) (a : BitVec 7) (t : BitVec 7) :
    (encRR op b a t).extractLsb' 28 4 = op.extractLsb' 7 4 := by
  unfold encRR
  ext j hj
  simp only [BitVec.getElem_extractLsb', BitVec.getLsbD_cast, BitVec.getLsbD_append]
  (repeat' split) <;> first | omega | (congr 1; omega)

theorem encRR_prefix7 (op : BitVec 11) (b : BitVec 7) (a : BitVec 7) (t : BitVec 7) :
    (encRR op b a t).extractLsb' 25 7 = op.extractLsb' 4 7 := by
  unfold encRR
  ext j hj
  simp only [BitVec.getElem_extractLsb', BitVec.getLsbD_cast, BitVec.getLsbD_append]
  (repeat' split) <;> first | omega | (congr 1; omega)

theorem encRR_prefix8 (op : BitVec 11) (b : BitVec 7) (a : BitVec 7) (t : BitVec 7) :
    (encRR op b a t).extractLsb' 24 8 = op.extractLsb' 3 8 := by
  unfold encRR
  ext j hj
  simp only [BitVec.getElem_extractLsb', BitVec.getLsbD_cast, BitVec.getLsbD_append]
  (repeat' split) <;> first | omega | (congr 1; omega)

theorem encRR_prefix9 (op : BitVec 11) (b : BitVec 7) (a : BitVec 7) (t : BitVec 7) :
    (encRR op b a t).extractLsb' 23 9 = op.extractLsb' 2 9 := by
  unfold encRR
  ext j hj
  simp only [BitVec.getElem_extractLsb', BitVec.getLsbD_cast, BitVec.getLsbD_append]
  (repeat' split) <;> first | omega | (congr 1; omega)

theorem encRR_prefix10 (op : BitVec 11) (b : BitVec 7) (a : BitVec 7) (t : BitVec 7) :
    (encRR op b a t).extractLsb' 22 10 = op.extractLsb' 1 10 := by
  unfold encRR
  ext j hj
  simp only [BitVec.getElem_extractLsb', BitVec.getLsbD_cast, BitVec.getLsbD_append]
  (repeat' split) <;> first | omega | (congr 1; omega)

theorem encRR_prefix11 (op : BitVec 11) (b : BitVec 7) (a : BitVec 7) (t : BitVec 7) :
    (encRR op b a t).extractLsb' 21 11 = op := by
  unfold encRR
  ext j hj
  simp only [BitVec.getElem_extractLsb', BitVec.getLsbD_cast, BitVec.getLsbD_append]
  simp only [← BitVec.getLsbD_eq_getElem]
  (repeat' split) <;> first | omega | (congr 1; omega)

theorem encRR_b (op : BitVec 11) (b : BitVec 7) (a : BitVec 7) (t : BitVec 7) :
    (encRR op b a t).extractLsb' 14 7 = b := by
  unfold encRR
  ext j hj
  simp only [BitVec.getElem_extractLsb', BitVec.getLsbD_cast, BitVec.getLsbD_append]
  simp only [← BitVec.getLsbD_eq_getElem]
  (repeat' split) <;> first | omega | (congr 1; omega)

theorem encRR_a (op : BitVec 11) (b : BitVec 7) (a : BitVec 7) (t : BitVec 7) :
    (encRR op b a t).extractLsb' 7 7 = a := by
  unfold encRR
  ext j hj
  simp only [BitVec.getElem_extractLsb', BitVec.getLsbD_cast, BitVec.getLsbD_append]
  simp only [← BitVec.getLsbD_eq_getElem]
  (repeat' split) <;> first | omega | (congr 1; omega)

theorem encRR_t (op : BitVec 11) (b : BitVec 7) (a : BitVec 7) (t : BitVec 7) :
    (encRR op b a t).extractLsb' 0 7 = t := by
  unfold encRR
  ext j hj
  simp only [BitVec.getElem_extractLsb', BitVec.getLsbD_cast, BitVec.getLsbD_append]
  simp only [← BitVec.getLsbD_eq_getElem]
  (repeat' split) <;> first | omega | (congr 1; omega)

theorem encRR_bit20 (op : BitVec 11) (b : BitVec 7) (a : BitVec 7) (t : BitVec 7) :
    (encRR op b a t).getLsbD 20 = b.getLsbD 6 := by
  simp only [encRR, BitVec.getLsbD_cast, BitVec.getLsbD_append]
  simp

theorem encRR_bit19 (op : BitVec 11) (b : BitVec 7) (a : BitVec 7) (t : BitVec 7) :
    (encRR op b a t).getLsbD 19 = b.getLsbD 5 := by
  simp only [encRR, BitVec.getLsbD_cast, BitVec.getLsbD_append]
  simp

theorem encRR_bit18 (op : BitVec 11) (b : BitVec 7) (a : BitVec 7) (t : BitVec 7) :
    (encRR op b a t).getLsbD 18 = b.getLsbD 4 := by
  simp only [encRR, BitVec.getLsbD_cast, BitVec.getLsbD_append]
  simp

theorem encRRR_prefix4 (op : BitVec 4) (t : BitVec 7) (b : BitVec 7) (a : BitVec 7) (c : BitVec 7) :
    (encRRR op t b a c).extractLsb' 28 4 = op := by
  unfold encRRR
  ext j hj
  simp only [BitVec.getElem_extractLsb', BitVec.getLsbD_cast, BitVec.getLsbD_append]
  simp only [← BitVec.getLsbD_eq_getElem]
  (repeat' split) <;> first | omega | (congr 1; omega)

theorem encRRR_t (op : BitVec 4) (t : BitVec 7) (b : BitVec 7) (a : BitVec 7) (c : BitVec 7) :
    (encRRR op t b a c).extractLsb' 21 7 = t := by
  unfold encRRR
  ext j hj
  simp only [BitVec.getElem_extractLsb', BitVec.getLsbD_cast, BitVec.getLsbD_append]
  simp only [← BitVec.getLsbD_eq_getElem]
  (repeat' split) <;> first | omega | (congr 1; omega)

theorem encRRR_b (op : BitVec 4) (t : BitVec 7) (b : BitVec 7) (a : BitVec 7) (c : BitVec 7) :
    (encRRR op t b a c).extractLsb' 14 7 = b := by
  unfold encRRR
  ext j hj
  simp only [BitVec.getElem_extractLsb', BitVec.getLsbD_cast, BitVec.getLsbD_append]
  simp only [← BitVec.getLsbD_eq_getElem]
  (repeat' split) <;> first | omega | (congr 1; omega)

theorem encRRR_a (op : BitVec 4) (t : BitVec 7) (b : BitVec 7) (a : BitVec 7) (c : BitVec 7) :
    (encRRR op t b a c).extractLsb' 7 7 = a := by
  unfold encRRR
  ext j hj
  simp only [BitVec.getElem_extractLsb', BitVec.getLsbD_cast, BitVec.getLsbD_append]
  simp only [← BitVec.getLsbD_eq_getElem]
  (repeat' split) <;> first | omega | (congr 1; omega)

theorem encRRR_c (op : BitVec 4) (t : BitVec 7) (b : BitVec 7) (a : BitVec 7) (c : BitVec 7) :
    (encRRR op t b a c).extractLsb' 0 7 = c := by
  unfold encRRR
  ext j hj
  simp only [BitVec.getElem_extractLsb', BitVec.getLsbD_cast, BitVec.getLsbD_append]
  simp only [← BitVec.getLsbD_eq_getElem]
  (repeat' split) <;> first | omega | (congr 1; omega)

theorem encRI8_prefix4 (op : BitVec 10) (i : BitVec 8) (a : BitVec 7) (t : BitVec 7) :
    (encRI8 op i a t).extractLsb' 28 4 = op.extractLsb' 6 4 := by
  unfold encRI8
  ext j hj
  simp only [BitVec.getElem_extractLsb', BitVec.getLsbD_cast, BitVec.getLsbD_append]
  (repeat' split) <;> first | omega | (congr 1; omega)

theorem encRI8_prefix7 (op : BitVec 10) (i : BitVec 8) (a : BitVec 7) (t : BitVec 7) :
    (encRI8 op i a t).extractLsb' 25 7 = op.extractLsb' 3 7 := by
  unfold encRI8
  ext j hj
  simp only [BitVec.getElem_extractLsb', BitVec.getLsbD_cast, BitVec.getLsbD_append]
  (repeat' split) <;> first | omega | (congr 1; omega)

theorem encRI8_prefix8 (op : BitVec 10) (i : BitVec 8) (a : BitVec 7) (t : BitVec 7) :
    (encRI8 op i a t).extractLsb' 24 8 = op.extractLsb' 2 8 := by
  unfold encRI8
  ext j hj
  simp only [BitVec.getElem_extractLsb', BitVec.getLsbD_cast, BitVec.getLsbD_append]
  (repeat' split) <;> first | omega | (congr 1; omega)

theorem encRI8_prefix9 (op : BitVec 10) (i : BitVec 8) (a : BitVec 7) (t : BitVec 7) :
    (encRI8 op i a t).extractLsb' 23 9 = op.extractLsb' 1 9 := by
  unfold encRI8
  ext j hj
  simp only [BitVec.getElem_extractLsb', BitVec.getLsbD_cast, BitVec.getLsbD_append]
  (repeat' split) <;> first | omega | (congr 1; omega)

theorem encRI8_prefix10 (op : BitVec 10) (i : BitVec 8) (a : BitVec 7) (t : BitVec 7) :
    (encRI8 op i a t).extractLsb' 22 10 = op := by
  unfold encRI8
  ext j hj
  simp only [BitVec.getElem_extractLsb', BitVec.getLsbD_cast, BitVec.getLsbD_append]
  simp only [← BitVec.getLsbD_eq_getElem]
  (repeat' split) <;> first | omega | (congr 1; omega)

theorem encRI8_i (op : BitVec 10) (i : BitVec 8) (a : BitVec 7) (t : BitVec 7) :
    (encRI8 op i a t).extractLsb' 14 8 = i := by
  unfold encRI8
  ext j hj
  simp only [BitVec.getElem_extractLsb', BitVec.getLsbD_cast, BitVec.getLsbD_append]
  simp only [← BitVec.getLsbD_eq_getElem]
  (repeat' split) <;> first | omega | (congr 1; omega)

theorem encRI8_a (op : BitVec 10) (i : BitVec 8) (a : BitVec 7) (t : BitVec 7) :
    (encRI8 op i a t).extractLsb' 7 7 = a := by
  unfold encRI8
  ext j hj
  simp only [BitVec.getElem_extractLsb', BitVec.getLsbD_cast, BitVec.getLsbD_append]
  simp only [← BitVec.getLsbD_eq_getElem]
  (repeat' split) <;> first | omega | (congr 1; omega)

theorem encRI8_t (op : BitVec 10) (i : BitVec 8) (a : BitVec 7) (t : BitVec 7) :
    (encRI8 op i a t).extractLsb' 0 7 = t := by
  unfold encRI8
  ext j hj
  simp only [BitVec.getElem_extractLsb', BitVec.getLsbD_cast, BitVec.getLsbD_append]
  simp only [← BitVec.getLsbD_eq_getElem]
  (repeat' split) <;> first | omega | (congr 1; omega)

theorem encRI10_prefix4 (op : BitVec 8) (i : BitVec 10) (a : BitVec 7) (t : BitVec 7) :
    (encRI10 op i a t).extractLsb' 28 4 = op.extractLsb' 4 4 := by
  unfold encRI10
  ext j hj
  simp only [BitVec.getElem_extractLsb', BitVec.getLsbD_cast, BitVec.getLsbD_append]
  (repeat' split) <;> first | omega | (congr 1; omega)

theorem encRI10_prefix7 (op : BitVec 8) (i : BitVec 10) (a : BitVec 7) (t : BitVec 7) :
    (encRI10 op i a t).extractLsb' 25 7 = op.extractLsb' 1 7 := by
  unfold encRI10
  ext j hj
  simp only [BitVec.getElem_extractLsb', BitVec.getLsbD_cast, BitVec.getLsbD_append]
  (repeat' split) <;> first | omega | (congr 1; omega)

theorem encRI10_prefix8 (op : BitVec 8) (i : BitVec 10) (a : BitVec 7) (t : BitVec 7) :
    (encRI10 op i a t).extractLsb' 24 8 = op := by
  unfold encRI10
  ext j hj
  simp only [BitVec.getElem_extractLsb', BitVec.getLsbD_cast, BitVec.getLsbD_append]
  simp only [← BitVec.getLsbD_eq_getElem]
  (repeat' split) <;> first | omega | (congr 1; omega)

theorem encRI10_i (op : BitVec 8) (i : BitVec 10) (a : BitVec 7) (t : BitVec 7) :
    (encRI10 op i a t).extractLsb' 14 10 = i := by
  unfold encRI10
  ext j hj
  simp only [BitVec.getElem_extractLsb', BitVec.getLsbD_cast, BitVec.getLsbD_append]
  simp only [← BitVec.getLsbD_eq_getElem]
  (repeat' split) <;> first | omega | (congr 1; omega)

theorem encRI10_a (op : BitVec 8) (i : BitVec 10) (a : BitVec 7) (t : BitVec 7) :
    (encRI10 op i a t).extractLsb' 7 7 = a := by
  unfold encRI10
  ext j hj
  simp only [BitVec.getElem_extractLsb', BitVec.getLsbD_cast, BitVec.getLsbD_append]
  simp only [← BitVec.getLsbD_eq_getElem]
  (repeat' split) <;> first | omega | (congr 1; omega)

theorem encRI10_t (op : BitVec 8) (i : BitVec 10) (a : BitVec 7) (t : BitVec 7) :
    (encRI10 op i a t).extractLsb' 0 7 = t := by
  unfold encRI10
  ext j hj
  simp only [BitVec.getElem_extractLsb', BitVec.getLsbD_cast, BitVec.getLsbD_append]
  simp only [← BitVec.getLsbD_eq_getElem]
  (repeat' split) <;> first | omega | (congr 1; omega)

theorem encRI16_prefix4 (op : BitVec 9) (i : BitVec 16) (t : BitVec 7) :
    (encRI16 op i t).extractLsb' 28 4 = op.extractLsb' 5 4 := by
  unfold encRI16
  ext j hj
  simp only [BitVec.getElem_extractLsb', BitVec.getLsbD_cast, BitVec.getLsbD_append]
  (repeat' split) <;> first | omega | (congr 1; omega)

theorem encRI16_prefix7 (op : BitVec 9) (i : BitVec 16) (t : BitVec 7) :
    (encRI16 op i t).extractLsb' 25 7 = op.extractLsb' 2 7 := by
  unfold encRI16
  ext j hj
  simp only [BitVec.getElem_extractLsb', BitVec.getLsbD_cast, BitVec.getLsbD_append]
  (repeat' split) <;> first | omega | (congr 1; omega)

theorem encRI16_prefix8 (op : BitVec 9) (i : BitVec 16) (t : BitVec 7) :
    (encRI16 op i t).extractLsb' 24 8 = op.extractLsb' 1 8 := by
  unfold encRI16
  ext j hj
  simp only [BitVec.getElem_extractLsb', BitVec.getLsbD_cast, BitVec.getLsbD_append]
  (repeat' split) <;> first | omega | (congr 1; omega)

theorem encRI16_prefix9 (op : BitVec 9) (i : BitVec 16) (t : BitVec 7) :
    (encRI16 op i t).extractLsb' 23 9 = op := by
  unfold encRI16
  ext j hj
  simp only [BitVec.getElem_extractLsb', BitVec.getLsbD_cast, BitVec.getLsbD_append]
  simp only [← BitVec.getLsbD_eq_getElem]
  (repeat' split) <;> first | omega | (congr 1; omega)

theorem encRI16_i (op : BitVec 9) (i : BitVec 16) (t : BitVec 7) :
    (encRI16 op i t).extractLsb' 7 16 = i := by
  unfold encRI16
  ext j hj
  simp only [BitVec.getElem_extractLsb', BitVec.getLsbD_cast, BitVec.getLsbD_append]
  simp only [← BitVec.getLsbD_eq_getElem]
  (repeat' split) <;> first | omega | (congr 1; omega)

theorem encRI16_t (op : BitVec 9) (i : BitVec 16) (t : BitVec 7) :
    (encRI16 op i t).extractLsb' 0 7 = t := by
  unfold encRI16
  ext j hj
  simp only [BitVec.getElem_extractLsb', BitVec.getLsbD_cast, BitVec.getLsbD_append]
  simp only [← BitVec.getLsbD_eq_getElem]
  (repeat' split) <;> first | omega | (congr 1; omega)

theorem encRI18_prefix4 (op : BitVec 7) (i : BitVec 18) (t : BitVec 7) :
    (encRI18 op i t).extractLsb' 28 4 = op.extractLsb' 3 4 := by
  unfold encRI18
  ext j hj
  simp only [BitVec.getElem_extractLsb', BitVec.getLsbD_cast, BitVec.getLsbD_append]
  (repeat' split) <;> first | omega | (congr 1; omega)

theorem encRI18_prefix7 (op : BitVec 7) (i : BitVec 18) (t : BitVec 7) :
    (encRI18 op i t).extractLsb' 25 7 = op := by
  unfold encRI18
  ext j hj
  simp only [BitVec.getElem_extractLsb', BitVec.getLsbD_cast, BitVec.getLsbD_append]
  simp only [← BitVec.getLsbD_eq_getElem]
  (repeat' split) <;> first | omega | (congr 1; omega)

theorem encRI18_i (op : BitVec 7) (i : BitVec 18) (t : BitVec 7) :
    (encRI18 op i t).extractLsb' 7 18 = i := by
  unfold encRI18
  ext j hj
  simp only [BitVec.getElem_extractLsb', BitVec.getLsbD_cast, BitVec.getLsbD_append]
  simp only [← BitVec.getLsbD_eq_getElem]
  (repeat' split) <;> first | omega | (congr 1; omega)

theorem encRI18_t (op : BitVec 7) (i : BitVec 18) (t : BitVec 7) :
    (encRI18 op i t).extractLsb' 0 7 = t := by
  unfold encRI18
  ext j hj
  simp only [BitVec.getElem_extractLsb', BitVec.getLsbD_cast, BitVec.getLsbD_append]
  simp only [← BitVec.getLsbD_eq_getElem]
  (repeat' split) <;> first | omega | (congr 1; omega)

theorem encLBT_prefix4 (op : BitVec 7) (roh : BitVec 2) (i : BitVec 16) (rol : BitVec 7) :
    (encLBT op roh i rol).extractLsb' 28 4 = op.extractLsb' 3 4 := by
  unfold encLBT
  ext j hj
  simp only [BitVec.getElem_extractLsb', BitVec.getLsbD_cast, BitVec.getLsbD_append]
  (repeat' split) <;> first | omega | (congr 1; omega)

theorem encLBT_prefix7 (op : BitVec 7) (roh : BitVec 2) (i : BitVec 16) (rol : BitVec 7) :
    (encLBT op roh i rol).extractLsb' 25 7 = op := by
  unfold encLBT
  ext j hj
  simp only [BitVec.getElem_extractLsb', BitVec.getLsbD_cast, BitVec.getLsbD_append]
  simp only [← BitVec.getLsbD_eq_getElem]
  (repeat' split) <;> first | omega | (congr 1; omega)

theorem encLBT_roh (op : BitVec 7) (roh : BitVec 2) (i : BitVec 16) (rol : BitVec 7) :
    (encLBT op roh i rol).extractLsb' 23 2 = roh := by
  unfold encLBT
  ext j hj
  simp only [BitVec.getElem_extractLsb', BitVec.getLsbD_cast, BitVec.getLsbD_append]
  simp only [← BitVec.getLsbD_eq_getElem]
  (repeat' split) <;> first | omega | (congr 1; omega)

theorem encLBT_i (op : BitVec 7) (roh : BitVec 2) (i : BitVec 16) (rol : BitVec 7) :
    (encLBT op roh i rol).extractLsb' 7 16 = i := by
  unfold encLBT
  ext j hj
  simp only [BitVec.getElem_extractLsb', BitVec.getLsbD_cast, BitVec.getLsbD_append]
  simp only [← BitVec.getLsbD_eq_getElem]
  (repeat' split) <;> first | omega | (congr 1; omega)

theorem encLBT_rol (op : BitVec 7) (roh : BitVec 2) (i : BitVec 16) (rol : BitVec 7) :
    (encLBT op roh i rol).extractLsb' 0 7 = rol := by
  unfold encLBT
  ext j hj
  simp only [BitVec.getElem_extractLsb', BitVec.getLsbD_cast, BitVec.getLsbD_append]
  simp only [← BitVec.getLsbD_eq_getElem]
  (repeat' split) <;> first | omega | (congr 1; omega)

theorem encLBTI_prefix4 (op : BitVec 11) (roh : BitVec 2) (a : BitVec 7) (rol : BitVec 7) :
    (encLBTI op roh a rol).extractLsb' 28 4 = op.extractLsb' 7 4 := by
  unfold encLBTI
  ext j hj
  simp only [BitVec.getElem_extractLsb', BitVec.getLsbD_cast, BitVec.getLsbD_append]
  (repeat' split) <;> first | omega | (congr 1; omega)

theorem encLBTI_prefix7 (op : BitVec 11) (roh : BitVec 2) (a : BitVec 7) (rol : BitVec 7) :
    (encLBTI op roh a rol).extractLsb' 25 7 = op.extractLsb' 4 7 := by
  unfold encLBTI
  ext j hj
  simp only [BitVec.getElem_extractLsb', BitVec.getLsbD_cast, BitVec.getLsbD_append]
  (repeat' split) <;> first | omega | (congr 1; omega)

theorem encLBTI_prefix8 (op : BitVec 11) (roh : BitVec 2) (a : BitVec 7) (rol : BitVec 7) :
    (encLBTI op roh a rol).extractLsb' 24 8 = op.extractLsb' 3 8 := by
  unfold encLBTI
  ext j hj
  simp only [BitVec.getElem_extractLsb', BitVec.getLsbD_cast, BitVec.getLsbD_append]
  (repeat' split) <;> first | omega | (congr 1; omega)

theorem encLBTI_prefix9 (op : BitVec 11) (roh : BitVec 2) (a : BitVec 7) (rol : BitVec 7) :
    (encLBTI op roh a rol).extractLsb' 23 9 = op.extractLsb' 2 9 := by
  unfold encLBTI
  ext j hj
  simp only [BitVec.getElem_extractLsb', BitVec.getLsbD_cast, BitVec.getLsbD_append]
  (repeat' split) <;> first | omega | (congr 1; omega)

theorem encLBTI_prefix10 (op : BitVec 11) (roh : BitVec 2) (a : BitVec 7) (rol : BitVec 7) :
    (encLBTI op roh a rol).extractLsb' 22 10 = op.extractLsb' 1 10 := by
  unfold encLBTI
  ext j hj
  simp only [BitVec.getElem_extractLsb', BitVec.getLsbD_cast, BitVec.getLsbD_append]
  (repeat' split) <;> first | omega | (congr 1; omega)

theorem encLBTI_prefix11 (op : BitVec 11) (roh : BitVec 2) (a : BitVec 7) (rol : BitVec 7) :
    (encLBTI op roh a rol).extractLsb' 21 11 = op := by
  unfold encLBTI
  ext j hj
  simp only [BitVec.getElem_extractLsb', BitVec.getLsbD_cast, BitVec.getLsbD_append]
  simp only [← BitVec.getLsbD_eq_getElem]
  (repeat' split) <;> first | omega | (congr 1; omega)

theorem encLBTI_roh (op : BitVec 11) (roh : BitVec 2) (a : BitVec 7) (rol : BitVec 7) :
    (encLBTI op roh a rol).extractLsb' 14 2 = roh := by
  unfold encLBTI
  ext j hj
  simp only [BitVec.getElem_extractLsb', BitVec.getLsbD_cast, BitVec.getLsbD_append]
  simp only [← BitVec.getLsbD_eq_getElem]
  (repeat' split) <;> first | omega | (congr 1; omega)

theorem encLBTI_a (op : BitVec 11) (roh : BitVec 2) (a : BitVec 7) (rol : BitVec 7) :
    (encLBTI op roh a rol).extractLsb' 7 7 = a := by
  unfold encLBTI
  ext j hj
  simp only [BitVec.getElem_extractLsb', BitVec.getLsbD_cast, BitVec.getLsbD_append]
  simp only [← BitVec.getLsbD_eq_getElem]
  (repeat' split) <;> first | omega | (congr 1; omega)

theorem encLBTI_rol (op : BitVec 11) (roh : BitVec 2) (a : BitVec 7) (rol : BitVec 7) :
    (encLBTI op roh a rol).extractLsb' 0 7 = rol := by
  unfold encLBTI
  ext j hj
  simp only [BitVec.getElem_extractLsb', BitVec.getLsbD_cast, BitVec.getLsbD_append]
  simp only [← BitVec.getLsbD_eq_getElem]
  (repeat' split) <;> first | omega | (congr 1; omega)

theorem encLBTI_bit20 (op : BitVec 11) (roh : BitVec 2) (a : BitVec 7) (rol : BitVec 7) :
    (encLBTI op roh a rol).getLsbD 20 = false := by
  simp only [encLBTI, BitVec.getLsbD_cast, BitVec.getLsbD_append]
  simp

theorem encLBTI_bit19 (op : BitVec 11) (roh : BitVec 2) (a : BitVec 7) (rol : BitVec 7) :
    (encLBTI op roh a rol).getLsbD 19 = false := by
  simp only [encLBTI, BitVec.getLsbD_cast, BitVec.getLsbD_append]
  simp

theorem encLBTI_bit18 (op : BitVec 11) (roh : BitVec 2) (a : BitVec 7) (rol : BitVec 7) :
    (encLBTI op roh a rol).getLsbD 18 = false := by
  simp only [encLBTI, BitVec.getLsbD_cast, BitVec.getLsbD_append]
  simp

theorem encSTOP_prefix4 (op : BitVec 11) (signal : BitVec 14) :
    (encSTOP op signal).extractLsb' 28 4 = op.extractLsb' 7 4 := by
  unfold encSTOP
  ext j hj
  simp only [BitVec.getElem_extractLsb', BitVec.getLsbD_cast, BitVec.getLsbD_append]
  (repeat' split) <;> first | omega | (congr 1; omega)

theorem encSTOP_prefix7 (op : BitVec 11) (signal : BitVec 14) :
    (encSTOP op signal).extractLsb' 25 7 = op.extractLsb' 4 7 := by
  unfold encSTOP
  ext j hj
  simp only [BitVec.getElem_extractLsb', BitVec.getLsbD_cast, BitVec.getLsbD_append]
  (repeat' split) <;> first | omega | (congr 1; omega)

theorem encSTOP_prefix8 (op : BitVec 11) (signal : BitVec 14) :
    (encSTOP op signal).extractLsb' 24 8 = op.extractLsb' 3 8 := by
  unfold encSTOP
  ext j hj
  simp only [BitVec.getElem_extractLsb', BitVec.getLsbD_cast, BitVec.getLsbD_append]
  (repeat' split) <;> first | omega | (congr 1; omega)

theorem encSTOP_prefix9 (op : BitVec 11) (signal : BitVec 14) :
    (encSTOP op signal).extractLsb' 23 9 = op.extractLsb' 2 9 := by
  unfold encSTOP
  ext j hj
  simp only [BitVec.getElem_extractLsb', BitVec.getLsbD_cast, BitVec.getLsbD_append]
  (repeat' split) <;> first | omega | (congr 1; omega)

theorem encSTOP_prefix10 (op : BitVec 11) (signal : BitVec 14) :
    (encSTOP op signal).extractLsb' 22 10 = op.extractLsb' 1 10 := by
  unfold encSTOP
  ext j hj
  simp only [BitVec.getElem_extractLsb', BitVec.getLsbD_cast, BitVec.getLsbD_append]
  (repeat' split) <;> first | omega | (congr 1; omega)

theorem encSTOP_prefix11 (op : BitVec 11) (signal : BitVec 14) :
    (encSTOP op signal).extractLsb' 21 11 = op := by
  unfold encSTOP
  ext j hj
  simp only [BitVec.getElem_extractLsb', BitVec.getLsbD_cast, BitVec.getLsbD_append]
  simp only [← BitVec.getLsbD_eq_getElem]
  (repeat' split) <;> first | omega | (congr 1; omega)

theorem encSTOP_signal (op : BitVec 11) (signal : BitVec 14) :
    (encSTOP op signal).extractLsb' 0 14 = signal := by
  unfold encSTOP
  ext j hj
  simp only [BitVec.getElem_extractLsb', BitVec.getLsbD_cast, BitVec.getLsbD_append]
  simp only [← BitVec.getLsbD_eq_getElem]
  (repeat' split) <;> first | omega | (congr 1; omega)

/-- Format RR: the opcode alone decides how an encoded word decodes (R140, R141). -/
theorem decodeWord_encRR (op : BitVec 11) (b : BitVec 7) (a : BitVec 7) (t : BitVec 7) {r : Word → Except DecodeError Instr}
    (h : ∀ w, decodeByPrefix (op.extractLsb' 7 4).toNat (op.extractLsb' 4 7).toNat (op.extractLsb' 3 8).toNat (op.extractLsb' 2 9).toNat (op.extractLsb' 1 10).toNat op.toNat w = r w) :
    decodeWord (encRR op b a t) = r (encRR op b a t) := by
  unfold decodeWord
  rw [encRR_prefix4, encRR_prefix7, encRR_prefix8, encRR_prefix9, encRR_prefix10, encRR_prefix11]
  exact h _ 

/-- Format RRR: the opcode alone decides how an encoded word decodes (R140, R141). -/
theorem decodeWord_encRRR (op : BitVec 4) (t : BitVec 7) (b : BitVec 7) (a : BitVec 7) (c : BitVec 7) {r : Word → Except DecodeError Instr}
    (h : ∀ p7 p8 p9 p10 p11 w, decodeByPrefix op.toNat p7 p8 p9 p10 p11 w = r w) :
    decodeWord (encRRR op t b a c) = r (encRRR op t b a c) := by
  unfold decodeWord
  rw [encRRR_prefix4]
  exact h _ _ _ _ _ _ 

/-- Format RI8: the opcode alone decides how an encoded word decodes (R140, R141). -/
theorem decodeWord_encRI8 (op : BitVec 10) (i : BitVec 8) (a : BitVec 7) (t : BitVec 7) {r : Word → Except DecodeError Instr}
    (h : ∀ p11 w, decodeByPrefix (op.extractLsb' 6 4).toNat (op.extractLsb' 3 7).toNat (op.extractLsb' 2 8).toNat (op.extractLsb' 1 9).toNat op.toNat p11 w = r w) :
    decodeWord (encRI8 op i a t) = r (encRI8 op i a t) := by
  unfold decodeWord
  rw [encRI8_prefix4, encRI8_prefix7, encRI8_prefix8, encRI8_prefix9, encRI8_prefix10]
  exact h _ _ 

/-- Format RI10: the opcode alone decides how an encoded word decodes (R140, R141). -/
theorem decodeWord_encRI10 (op : BitVec 8) (i : BitVec 10) (a : BitVec 7) (t : BitVec 7) {r : Word → Except DecodeError Instr}
    (h : ∀ p9 p10 p11 w, decodeByPrefix (op.extractLsb' 4 4).toNat (op.extractLsb' 1 7).toNat op.toNat p9 p10 p11 w = r w) :
    decodeWord (encRI10 op i a t) = r (encRI10 op i a t) := by
  unfold decodeWord
  rw [encRI10_prefix4, encRI10_prefix7, encRI10_prefix8]
  exact h _ _ _ _ 

/-- Format RI16: the opcode alone decides how an encoded word decodes (R140, R141). -/
theorem decodeWord_encRI16 (op : BitVec 9) (i : BitVec 16) (t : BitVec 7) {r : Word → Except DecodeError Instr}
    (h : ∀ p10 p11 w, decodeByPrefix (op.extractLsb' 5 4).toNat (op.extractLsb' 2 7).toNat (op.extractLsb' 1 8).toNat op.toNat p10 p11 w = r w) :
    decodeWord (encRI16 op i t) = r (encRI16 op i t) := by
  unfold decodeWord
  rw [encRI16_prefix4, encRI16_prefix7, encRI16_prefix8, encRI16_prefix9]
  exact h _ _ _ 

/-- Format RI18: the opcode alone decides how an encoded word decodes (R140, R141). -/
theorem decodeWord_encRI18 (op : BitVec 7) (i : BitVec 18) (t : BitVec 7) {r : Word → Except DecodeError Instr}
    (h : ∀ p8 p9 p10 p11 w, decodeByPrefix (op.extractLsb' 3 4).toNat op.toNat p8 p9 p10 p11 w = r w) :
    decodeWord (encRI18 op i t) = r (encRI18 op i t) := by
  unfold decodeWord
  rw [encRI18_prefix4, encRI18_prefix7]
  exact h _ _ _ _ _ 

/-- Format LBT: the opcode alone decides how an encoded word decodes (R140, R141). -/
theorem decodeWord_encLBT (op : BitVec 7) (roh : BitVec 2) (i : BitVec 16) (rol : BitVec 7) {r : Word → Except DecodeError Instr}
    (h : ∀ p8 p9 p10 p11 w, decodeByPrefix (op.extractLsb' 3 4).toNat op.toNat p8 p9 p10 p11 w = r w) :
    decodeWord (encLBT op roh i rol) = r (encLBT op roh i rol) := by
  unfold decodeWord
  rw [encLBT_prefix4, encLBT_prefix7]
  exact h _ _ _ _ _ 

/-- Format LBTI: the opcode alone decides how an encoded word decodes (R140, R141). -/
theorem decodeWord_encLBTI (op : BitVec 11) (roh : BitVec 2) (a : BitVec 7) (rol : BitVec 7) {r : Word → Except DecodeError Instr}
    (h : ∀ w, decodeByPrefix (op.extractLsb' 7 4).toNat (op.extractLsb' 4 7).toNat (op.extractLsb' 3 8).toNat (op.extractLsb' 2 9).toNat (op.extractLsb' 1 10).toNat op.toNat w = r w) :
    decodeWord (encLBTI op roh a rol) = r (encLBTI op roh a rol) := by
  unfold decodeWord
  rw [encLBTI_prefix4, encLBTI_prefix7, encLBTI_prefix8, encLBTI_prefix9, encLBTI_prefix10, encLBTI_prefix11]
  exact h _ 

/-- Format STOP: the opcode alone decides how an encoded word decodes (R140, R141). -/
theorem decodeWord_encSTOP (op : BitVec 11) (signal : BitVec 14) {r : Word → Except DecodeError Instr}
    (h : ∀ w, decodeByPrefix (op.extractLsb' 7 4).toNat (op.extractLsb' 4 7).toNat (op.extractLsb' 3 8).toNat (op.extractLsb' 2 9).toNat (op.extractLsb' 1 10).toNat op.toNat w = r w) :
    decodeWord (encSTOP op signal) = r (encSTOP op signal) := by
  unfold decodeWord
  rw [encSTOP_prefix4, encSTOP_prefix7, encSTOP_prefix8, encSTOP_prefix9, encSTOP_prefix10, encSTOP_prefix11]
  exact h _ 

end Sys2Proof.Laws
end

