-- ==== Sys2Proof/Laws/PerInstr.lean ====
section
/-! SUPPORT. Statements about every instruction as syntax, one lemma for each constructor.  RoundTrip: the word of a
well-formed instruction decodes to that instruction (R140 to R142). -/

namespace Sys2Proof.Laws

/-- The offset of a relative or absolute operand, from the field that holds it (R142 c). -/
theorem s18_field {s : BitVec 18} (h : wfS18 s = true) : i16OfS18 s ++ 0#2 = s := by
  have h0 : s.extractLsb' 0 2 = 0#2 := by simpa [wfS18] using h
  rw [i16OfS18, ← h0]
  ext j hj
  simp only [BitVec.getElem_append, BitVec.getElem_extractLsb']
  split
  · rw [← BitVec.getLsbD_eq_getElem]; congr 1; omega
  · rw [← BitVec.getLsbD_eq_getElem]; congr 1; omega

/-- The displacement of a d-form operand, from the field that holds it (R142 b). -/
theorem s14_field {s : BitVec 14} (h : wfS14 s = true) : i10OfS14 s ++ 0#4 = s := by
  have h0 : s.extractLsb' 0 4 = 0#4 := by simpa [wfS14] using h
  rw [i10OfS14, ← h0]
  ext j hj
  simp only [BitVec.getElem_append, BitVec.getElem_extractLsb']
  split
  · rw [← BitVec.getLsbD_eq_getElem]; congr 1; omega
  · rw [← BitVec.getLsbD_eq_getElem]; congr 1; omega

/-- The distance of a hint, from the two fields that hold it (R142 d). -/
theorem s11_field {s : BitVec 11} (h : wfS11 s = true) : rohOfS11 s ++ rolOfS11 s ++ 0#2 = s := by
  have h0 : s.extractLsb' 0 2 = 0#2 := by simpa [wfS11] using h
  rw [rohOfS11, rolOfS11, ← h0]
  ext j hj
  simp only [BitVec.getElem_append, BitVec.getElem_extractLsb']
  (repeat' split) <;> (rw [← BitVec.getLsbD_eq_getElem]; congr 1; omega)

/-- The scale exponent, from the biased field that holds it (R142 e). -/
theorem scale_field (bias scale : BitVec 8) : bias - (bias - scale) = scale := by
  exact sub_sub_cancel bias scale

namespace RoundTrip

/-- The word of a well-formed instruction decodes to it. -/
def Statement (i : Instr) : Prop := i.wf = true → decodeWord (encode i) = .ok i

theorem a (rt : RegNum) (ra : RegNum) (rb : RegNum) : Statement (.a rt ra rb) := by
  intro _
  refine (decodeWord_encRR _ _ _ _ (r := fun w => .ok (.a (rtField w) (raField w) (rbField w))) (fun _ => rfl)).trans ?_
  simp only [rtField, raField, rbField, encRR_b, encRR_a, encRR_t]

theorem absdb (rt : RegNum) (ra : RegNum) (rb : RegNum) : Statement (.absdb rt ra rb) := by
  intro _
  refine (decodeWord_encRR _ _ _ _ (r := fun w => .ok (.absdb (rtField w) (raField w) (rbField w))) (fun _ => rfl)).trans ?_
  simp only [rtField, raField, rbField, encRR_b, encRR_a, encRR_t]

theorem addx (rt : RegNum) (ra : RegNum) (rb : RegNum) : Statement (.addx rt ra rb) := by
  intro _
  refine (decodeWord_encRR _ _ _ _ (r := fun w => .ok (.addx (rtField w) (raField w) (rbField w))) (fun _ => rfl)).trans ?_
  simp only [rtField, raField, rbField, encRR_b, encRR_a, encRR_t]

theorem ah (rt : RegNum) (ra : RegNum) (rb : RegNum) : Statement (.ah rt ra rb) := by
  intro _
  refine (decodeWord_encRR _ _ _ _ (r := fun w => .ok (.ah (rtField w) (raField w) (rbField w))) (fun _ => rfl)).trans ?_
  simp only [rtField, raField, rbField, encRR_b, encRR_a, encRR_t]

theorem ahi (rt : RegNum) (ra : RegNum) (s10 : BitVec 10) : Statement (.ahi rt ra s10) := by
  intro _
  refine (decodeWord_encRI10 _ _ _ _ (r := fun w => .ok (.ahi (rtField w) (raField w) (i10Field w))) (fun _ _ _ _ => rfl)).trans ?_
  simp only [rtField, raField, i10Field, encRI10_i, encRI10_a, encRI10_t]

theorem ai (rt : RegNum) (ra : RegNum) (s10 : BitVec 10) : Statement (.ai rt ra s10) := by
  intro _
  refine (decodeWord_encRI10 _ _ _ _ (r := fun w => .ok (.ai (rtField w) (raField w) (i10Field w))) (fun _ _ _ _ => rfl)).trans ?_
  simp only [rtField, raField, i10Field, encRI10_i, encRI10_a, encRI10_t]

theorem avgb (rt : RegNum) (ra : RegNum) (rb : RegNum) : Statement (.avgb rt ra rb) := by
  intro _
  refine (decodeWord_encRR _ _ _ _ (r := fun w => .ok (.avgb (rtField w) (raField w) (rbField w))) (fun _ => rfl)).trans ?_
  simp only [rtField, raField, rbField, encRR_b, encRR_a, encRR_t]

theorem bg (rt : RegNum) (ra : RegNum) (rb : RegNum) : Statement (.bg rt ra rb) := by
  intro _
  refine (decodeWord_encRR _ _ _ _ (r := fun w => .ok (.bg (rtField w) (raField w) (rbField w))) (fun _ => rfl)).trans ?_
  simp only [rtField, raField, rbField, encRR_b, encRR_a, encRR_t]

theorem bgx (rt : RegNum) (ra : RegNum) (rb : RegNum) : Statement (.bgx rt ra rb) := by
  intro _
  refine (decodeWord_encRR _ _ _ _ (r := fun w => .ok (.bgx (rtField w) (raField w) (rbField w))) (fun _ => rfl)).trans ?_
  simp only [rtField, raField, rbField, encRR_b, encRR_a, encRR_t]

theorem cg (rt : RegNum) (ra : RegNum) (rb : RegNum) : Statement (.cg rt ra rb) := by
  intro _
  refine (decodeWord_encRR _ _ _ _ (r := fun w => .ok (.cg (rtField w) (raField w) (rbField w))) (fun _ => rfl)).trans ?_
  simp only [rtField, raField, rbField, encRR_b, encRR_a, encRR_t]

theorem cgx (rt : RegNum) (ra : RegNum) (rb : RegNum) : Statement (.cgx rt ra rb) := by
  intro _
  refine (decodeWord_encRR _ _ _ _ (r := fun w => .ok (.cgx (rtField w) (raField w) (rbField w))) (fun _ => rfl)).trans ?_
  simp only [rtField, raField, rbField, encRR_b, encRR_a, encRR_t]

theorem clz (rt : RegNum) (ra : RegNum) : Statement (.clz rt ra) := by
  intro _
  refine (decodeWord_encRR _ _ _ _ (r := fun w => .ok (.clz (rtField w) (raField w))) (fun _ => rfl)).trans ?_
  simp only [rtField, raField, encRR_a, encRR_t]

theorem cntb (rt : RegNum) (ra : RegNum) : Statement (.cntb rt ra) := by
  intro _
  refine (decodeWord_encRR _ _ _ _ (r := fun w => .ok (.cntb (rtField w) (raField w))) (fun _ => rfl)).trans ?_
  simp only [rtField, raField, encRR_a, encRR_t]

theorem mpy (rt : RegNum) (ra : RegNum) (rb : RegNum) : Statement (.mpy rt ra rb) := by
  intro _
  refine (decodeWord_encRR _ _ _ _ (r := fun w => .ok (.mpy (rtField w) (raField w) (rbField w))) (fun _ => rfl)).trans ?_
  simp only [rtField, raField, rbField, encRR_b, encRR_a, encRR_t]

theorem mpya (rt : RegNum) (ra : RegNum) (rb : RegNum) (rc : RegNum) : Statement (.mpya rt ra rb rc) := by
  intro _
  refine (decodeWord_encRRR _ _ _ _ _ (r := fun w => .ok (.mpya (rrrRtField w) (raField w) (rbField w) (rtField w))) (fun _ _ _ _ _ _ => rfl)).trans ?_
  simp only [rtField, raField, rbField, rrrRtField, encRRR_t, encRRR_b, encRRR_a, encRRR_c]

theorem mpyh (rt : RegNum) (ra : RegNum) (rb : RegNum) : Statement (.mpyh rt ra rb) := by
  intro _
  refine (decodeWord_encRR _ _ _ _ (r := fun w => .ok (.mpyh (rtField w) (raField w) (rbField w))) (fun _ => rfl)).trans ?_
  simp only [rtField, raField, rbField, encRR_b, encRR_a, encRR_t]

theorem mpyhh (rt : RegNum) (ra : RegNum) (rb : RegNum) : Statement (.mpyhh rt ra rb) := by
  intro _
  refine (decodeWord_encRR _ _ _ _ (r := fun w => .ok (.mpyhh (rtField w) (raField w) (rbField w))) (fun _ => rfl)).trans ?_
  simp only [rtField, raField, rbField, encRR_b, encRR_a, encRR_t]

theorem mpyhha (rt : RegNum) (ra : RegNum) (rb : RegNum) : Statement (.mpyhha rt ra rb) := by
  intro _
  refine (decodeWord_encRR _ _ _ _ (r := fun w => .ok (.mpyhha (rtField w) (raField w) (rbField w))) (fun _ => rfl)).trans ?_
  simp only [rtField, raField, rbField, encRR_b, encRR_a, encRR_t]

theorem mpyhhau (rt : RegNum) (ra : RegNum) (rb : RegNum) : Statement (.mpyhhau rt ra rb) := by
  intro _
  refine (decodeWord_encRR _ _ _ _ (r := fun w => .ok (.mpyhhau (rtField w) (raField w) (rbField w))) (fun _ => rfl)).trans ?_
  simp only [rtField, raField, rbField, encRR_b, encRR_a, encRR_t]

theorem mpyhhu (rt : RegNum) (ra : RegNum) (rb : RegNum) : Statement (.mpyhhu rt ra rb) := by
  intro _
  refine (decodeWord_encRR _ _ _ _ (r := fun w => .ok (.mpyhhu (rtField w) (raField w) (rbField w))) (fun _ => rfl)).trans ?_
  simp only [rtField, raField, rbField, encRR_b, encRR_a, encRR_t]

theorem mpyi (rt : RegNum) (ra : RegNum) (s10 : BitVec 10) : Statement (.mpyi rt ra s10) := by
  intro _
  refine (decodeWord_encRI10 _ _ _ _ (r := fun w => .ok (.mpyi (rtField w) (raField w) (i10Field w))) (fun _ _ _ _ => rfl)).trans ?_
  simp only [rtField, raField, i10Field, encRI10_i, encRI10_a, encRI10_t]

theorem mpys (rt : RegNum) (ra : RegNum) (rb : RegNum) : Statement (.mpys rt ra rb) := by
  intro _
  refine (decodeWord_encRR _ _ _ _ (r := fun w => .ok (.mpys (rtField w) (raField w) (rbField w))) (fun _ => rfl)).trans ?_
  simp only [rtField, raField, rbField, encRR_b, encRR_a, encRR_t]

theorem mpyu (rt : RegNum) (ra : RegNum) (rb : RegNum) : Statement (.mpyu rt ra rb) := by
  intro _
  refine (decodeWord_encRR _ _ _ _ (r := fun w => .ok (.mpyu (rtField w) (raField w) (rbField w))) (fun _ => rfl)).trans ?_
  simp only [rtField, raField, rbField, encRR_b, encRR_a, encRR_t]

theorem mpyui (rt : RegNum) (ra : RegNum) (s10 : BitVec 10) : Statement (.mpyui rt ra s10) := by
  intro _
  refine (decodeWord_encRI10 _ _ _ _ (r := fun w => .ok (.mpyui (rtField w) (raField w) (i10Field w))) (fun _ _ _ _ => rfl)).trans ?_
  simp only [rtField, raField, i10Field, encRI10_i, encRI10_a, encRI10_t]

theorem sf (rt : RegNum) (ra : RegNum) (rb : RegNum) : Statement (.sf rt ra rb) := by
  intro _
  refine (decodeWord_encRR _ _ _ _ (r := fun w => .ok (.sf (rtField w) (raField w) (rbField w))) (fun _ => rfl)).trans ?_
  simp only [rtField, raField, rbField, encRR_b, encRR_a, encRR_t]

theorem sfh (rt : RegNum) (ra : RegNum) (rb : RegNum) : Statement (.sfh rt ra rb) := by
  intro _
  refine (decodeWord_encRR _ _ _ _ (r := fun w => .ok (.sfh (rtField w) (raField w) (rbField w))) (fun _ => rfl)).trans ?_
  simp only [rtField, raField, rbField, encRR_b, encRR_a, encRR_t]

theorem sfhi (rt : RegNum) (ra : RegNum) (s10 : BitVec 10) : Statement (.sfhi rt ra s10) := by
  intro _
  refine (decodeWord_encRI10 _ _ _ _ (r := fun w => .ok (.sfhi (rtField w) (raField w) (i10Field w))) (fun _ _ _ _ => rfl)).trans ?_
  simp only [rtField, raField, i10Field, encRI10_i, encRI10_a, encRI10_t]

theorem sfi (rt : RegNum) (ra : RegNum) (s10 : BitVec 10) : Statement (.sfi rt ra s10) := by
  intro _
  refine (decodeWord_encRI10 _ _ _ _ (r := fun w => .ok (.sfi (rtField w) (raField w) (i10Field w))) (fun _ _ _ _ => rfl)).trans ?_
  simp only [rtField, raField, i10Field, encRI10_i, encRI10_a, encRI10_t]

theorem sfx (rt : RegNum) (ra : RegNum) (rb : RegNum) : Statement (.sfx rt ra rb) := by
  intro _
  refine (decodeWord_encRR _ _ _ _ (r := fun w => .ok (.sfx (rtField w) (raField w) (rbField w))) (fun _ => rfl)).trans ?_
  simp only [rtField, raField, rbField, encRR_b, encRR_a, encRR_t]

theorem sumb (rt : RegNum) (ra : RegNum) (rb : RegNum) : Statement (.sumb rt ra rb) := by
  intro _
  refine (decodeWord_encRR _ _ _ _ (r := fun w => .ok (.sumb (rtField w) (raField w) (rbField w))) (fun _ => rfl)).trans ?_
  simp only [rtField, raField, rbField, encRR_b, encRR_a, encRR_t]

theorem xsbh (rt : RegNum) (ra : RegNum) : Statement (.xsbh rt ra) := by
  intro _
  refine (decodeWord_encRR _ _ _ _ (r := fun w => .ok (.xsbh (rtField w) (raField w))) (fun _ => rfl)).trans ?_
  simp only [rtField, raField, encRR_a, encRR_t]

theorem xshw (rt : RegNum) (ra : RegNum) : Statement (.xshw rt ra) := by
  intro _
  refine (decodeWord_encRR _ _ _ _ (r := fun w => .ok (.xshw (rtField w) (raField w))) (fun _ => rfl)).trans ?_
  simp only [rtField, raField, encRR_a, encRR_t]

theorem xswd (rt : RegNum) (ra : RegNum) : Statement (.xswd rt ra) := by
  intro _
  refine (decodeWord_encRR _ _ _ _ (r := fun w => .ok (.xswd (rtField w) (raField w))) (fun _ => rfl)).trans ?_
  simp only [rtField, raField, encRR_a, encRR_t]

theorem and (rt : RegNum) (ra : RegNum) (rb : RegNum) : Statement (.and rt ra rb) := by
  intro _
  refine (decodeWord_encRR _ _ _ _ (r := fun w => .ok (.and (rtField w) (raField w) (rbField w))) (fun _ => rfl)).trans ?_
  simp only [rtField, raField, rbField, encRR_b, encRR_a, encRR_t]

theorem andbi (rt : RegNum) (ra : RegNum) (s10 : BitVec 10) : Statement (.andbi rt ra s10) := by
  intro _
  refine (decodeWord_encRI10 _ _ _ _ (r := fun w => .ok (.andbi (rtField w) (raField w) (i10Field w))) (fun _ _ _ _ => rfl)).trans ?_
  simp only [rtField, raField, i10Field, encRI10_i, encRI10_a, encRI10_t]

theorem andc (rt : RegNum) (ra : RegNum) (rb : RegNum) : Statement (.andc rt ra rb) := by
  intro _
  refine (decodeWord_encRR _ _ _ _ (r := fun w => .ok (.andc (rtField w) (raField w) (rbField w))) (fun _ => rfl)).trans ?_
  simp only [rtField, raField, rbField, encRR_b, encRR_a, encRR_t]

theorem andhi (rt : RegNum) (ra : RegNum) (s10 : BitVec 10) : Statement (.andhi rt ra s10) := by
  intro _
  refine (decodeWord_encRI10 _ _ _ _ (r := fun w => .ok (.andhi (rtField w) (raField w) (i10Field w))) (fun _ _ _ _ => rfl)).trans ?_
  simp only [rtField, raField, i10Field, encRI10_i, encRI10_a, encRI10_t]

theorem andi (rt : RegNum) (ra : RegNum) (s10 : BitVec 10) : Statement (.andi rt ra s10) := by
  intro _
  refine (decodeWord_encRI10 _ _ _ _ (r := fun w => .ok (.andi (rtField w) (raField w) (i10Field w))) (fun _ _ _ _ => rfl)).trans ?_
  simp only [rtField, raField, i10Field, encRI10_i, encRI10_a, encRI10_t]

theorem eqv (rt : RegNum) (ra : RegNum) (rb : RegNum) : Statement (.eqv rt ra rb) := by
  intro _
  refine (decodeWord_encRR _ _ _ _ (r := fun w => .ok (.eqv (rtField w) (raField w) (rbField w))) (fun _ => rfl)).trans ?_
  simp only [rtField, raField, rbField, encRR_b, encRR_a, encRR_t]

theorem nand (rt : RegNum) (ra : RegNum) (rb : RegNum) : Statement (.nand rt ra rb) := by
  intro _
  refine (decodeWord_encRR _ _ _ _ (r := fun w => .ok (.nand (rtField w) (raField w) (rbField w))) (fun _ => rfl)).trans ?_
  simp only [rtField, raField, rbField, encRR_b, encRR_a, encRR_t]

theorem nor (rt : RegNum) (ra : RegNum) (rb : RegNum) : Statement (.nor rt ra rb) := by
  intro _
  refine (decodeWord_encRR _ _ _ _ (r := fun w => .ok (.nor (rtField w) (raField w) (rbField w))) (fun _ => rfl)).trans ?_
  simp only [rtField, raField, rbField, encRR_b, encRR_a, encRR_t]

theorem or (rt : RegNum) (ra : RegNum) (rb : RegNum) : Statement (.or rt ra rb) := by
  intro _
  refine (decodeWord_encRR _ _ _ _ (r := fun w => .ok (.or (rtField w) (raField w) (rbField w))) (fun _ => rfl)).trans ?_
  simp only [rtField, raField, rbField, encRR_b, encRR_a, encRR_t]

theorem orbi (rt : RegNum) (ra : RegNum) (s10 : BitVec 10) : Statement (.orbi rt ra s10) := by
  intro _
  refine (decodeWord_encRI10 _ _ _ _ (r := fun w => .ok (.orbi (rtField w) (raField w) (i10Field w))) (fun _ _ _ _ => rfl)).trans ?_
  simp only [rtField, raField, i10Field, encRI10_i, encRI10_a, encRI10_t]

theorem orc (rt : RegNum) (ra : RegNum) (rb : RegNum) : Statement (.orc rt ra rb) := by
  intro _
  refine (decodeWord_encRR _ _ _ _ (r := fun w => .ok (.orc (rtField w) (raField w) (rbField w))) (fun _ => rfl)).trans ?_
  simp only [rtField, raField, rbField, encRR_b, encRR_a, encRR_t]

theorem orhi (rt : RegNum) (ra : RegNum) (s10 : BitVec 10) : Statement (.orhi rt ra s10) := by
  intro _
  refine (decodeWord_encRI10 _ _ _ _ (r := fun w => .ok (.orhi (rtField w) (raField w) (i10Field w))) (fun _ _ _ _ => rfl)).trans ?_
  simp only [rtField, raField, i10Field, encRI10_i, encRI10_a, encRI10_t]

theorem ori (rt : RegNum) (ra : RegNum) (s10 : BitVec 10) : Statement (.ori rt ra s10) := by
  intro _
  refine (decodeWord_encRI10 _ _ _ _ (r := fun w => .ok (.ori (rtField w) (raField w) (i10Field w))) (fun _ _ _ _ => rfl)).trans ?_
  simp only [rtField, raField, i10Field, encRI10_i, encRI10_a, encRI10_t]

theorem orx (rt : RegNum) (ra : RegNum) : Statement (.orx rt ra) := by
  intro _
  refine (decodeWord_encRR _ _ _ _ (r := fun w => .ok (.orx (rtField w) (raField w))) (fun _ => rfl)).trans ?_
  simp only [rtField, raField, encRR_a, encRR_t]

theorem selb (rt : RegNum) (ra : RegNum) (rb : RegNum) (rc : RegNum) : Statement (.selb rt ra rb rc) := by
  intro _
  refine (decodeWord_encRRR _ _ _ _ _ (r := fun w => .ok (.selb (rrrRtField w) (raField w) (rbField w) (rtField w))) (fun _ _ _ _ _ _ => rfl)).trans ?_
  simp only [rtField, raField, rbField, rrrRtField, encRRR_t, encRRR_b, encRRR_a, encRRR_c]

theorem xor (rt : RegNum) (ra : RegNum) (rb : RegNum) : Statement (.xor rt ra rb) := by
  intro _
  refine (decodeWord_encRR _ _ _ _ (r := fun w => .ok (.xor (rtField w) (raField w) (rbField w))) (fun _ => rfl)).trans ?_
  simp only [rtField, raField, rbField, encRR_b, encRR_a, encRR_t]

theorem xorbi (rt : RegNum) (ra : RegNum) (s10 : BitVec 10) : Statement (.xorbi rt ra s10) := by
  intro _
  refine (decodeWord_encRI10 _ _ _ _ (r := fun w => .ok (.xorbi (rtField w) (raField w) (i10Field w))) (fun _ _ _ _ => rfl)).trans ?_
  simp only [rtField, raField, i10Field, encRI10_i, encRI10_a, encRI10_t]

theorem xorhi (rt : RegNum) (ra : RegNum) (s10 : BitVec 10) : Statement (.xorhi rt ra s10) := by
  intro _
  refine (decodeWord_encRI10 _ _ _ _ (r := fun w => .ok (.xorhi (rtField w) (raField w) (i10Field w))) (fun _ _ _ _ => rfl)).trans ?_
  simp only [rtField, raField, i10Field, encRI10_i, encRI10_a, encRI10_t]

theorem xori (rt : RegNum) (ra : RegNum) (s10 : BitVec 10) : Statement (.xori rt ra s10) := by
  intro _
  refine (decodeWord_encRI10 _ _ _ _ (r := fun w => .ok (.xori (rtField w) (raField w) (i10Field w))) (fun _ _ _ _ => rfl)).trans ?_
  simp only [rtField, raField, i10Field, encRI10_i, encRI10_a, encRI10_t]

theorem cbd (rt : RegNum) (u7 : BitVec 7) (ra : RegNum) : Statement (.cbd rt u7 ra) := by
  intro _
  refine (decodeWord_encRR _ _ _ _ (r := fun w => .ok (.cbd (rtField w) (i7Field w) (raField w))) (fun _ => rfl)).trans ?_
  simp only [rtField, raField, i7Field, encRR_b, encRR_a, encRR_t]

theorem cbx (rt : RegNum) (ra : RegNum) (rb : RegNum) : Statement (.cbx rt ra rb) := by
  intro _
  refine (decodeWord_encRR _ _ _ _ (r := fun w => .ok (.cbx (rtField w) (raField w) (rbField w))) (fun _ => rfl)).trans ?_
  simp only [rtField, raField, rbField, encRR_b, encRR_a, encRR_t]

theorem cdd (rt : RegNum) (u7 : BitVec 7) (ra : RegNum) : Statement (.cdd rt u7 ra) := by
  intro _
  refine (decodeWord_encRR _ _ _ _ (r := fun w => .ok (.cdd (rtField w) (i7Field w) (raField w))) (fun _ => rfl)).trans ?_
  simp only [rtField, raField, i7Field, encRR_b, encRR_a, encRR_t]

theorem cdx (rt : RegNum) (ra : RegNum) (rb : RegNum) : Statement (.cdx rt ra rb) := by
  intro _
  refine (decodeWord_encRR _ _ _ _ (r := fun w => .ok (.cdx (rtField w) (raField w) (rbField w))) (fun _ => rfl)).trans ?_
  simp only [rtField, raField, rbField, encRR_b, encRR_a, encRR_t]

theorem chd (rt : RegNum) (u7 : BitVec 7) (ra : RegNum) : Statement (.chd rt u7 ra) := by
  intro _
  refine (decodeWord_encRR _ _ _ _ (r := fun w => .ok (.chd (rtField w) (i7Field w) (raField w))) (fun _ => rfl)).trans ?_
  simp only [rtField, raField, i7Field, encRR_b, encRR_a, encRR_t]

theorem chx (rt : RegNum) (ra : RegNum) (rb : RegNum) : Statement (.chx rt ra rb) := by
  intro _
  refine (decodeWord_encRR _ _ _ _ (r := fun w => .ok (.chx (rtField w) (raField w) (rbField w))) (fun _ => rfl)).trans ?_
  simp only [rtField, raField, rbField, encRR_b, encRR_a, encRR_t]

theorem cwd (rt : RegNum) (u7 : BitVec 7) (ra : RegNum) : Statement (.cwd rt u7 ra) := by
  intro _
  refine (decodeWord_encRR _ _ _ _ (r := fun w => .ok (.cwd (rtField w) (i7Field w) (raField w))) (fun _ => rfl)).trans ?_
  simp only [rtField, raField, i7Field, encRR_b, encRR_a, encRR_t]

theorem cwx (rt : RegNum) (ra : RegNum) (rb : RegNum) : Statement (.cwx rt ra rb) := by
  intro _
  refine (decodeWord_encRR _ _ _ _ (r := fun w => .ok (.cwx (rtField w) (raField w) (rbField w))) (fun _ => rfl)).trans ?_
  simp only [rtField, raField, rbField, encRR_b, encRR_a, encRR_t]

theorem fsm (rt : RegNum) (ra : RegNum) : Statement (.fsm rt ra) := by
  intro _
  refine (decodeWord_encRR _ _ _ _ (r := fun w => .ok (.fsm (rtField w) (raField w))) (fun _ => rfl)).trans ?_
  simp only [rtField, raField, encRR_a, encRR_t]

theorem fsmb (rt : RegNum) (ra : RegNum) : Statement (.fsmb rt ra) := by
  intro _
  refine (decodeWord_encRR _ _ _ _ (r := fun w => .ok (.fsmb (rtField w) (raField w))) (fun _ => rfl)).trans ?_
  simp only [rtField, raField, encRR_a, encRR_t]

theorem fsmbi (rt : RegNum) (u16 : BitVec 16) : Statement (.fsmbi rt u16) := by
  intro _
  refine (decodeWord_encRI16 _ _ _ (r := fun w => .ok (.fsmbi (rtField w) (i16Field w))) (fun _ _ _ => rfl)).trans ?_
  simp only [rtField, i16Field, encRI16_i, encRI16_t]

theorem fsmh (rt : RegNum) (ra : RegNum) : Statement (.fsmh rt ra) := by
  intro _
  refine (decodeWord_encRR _ _ _ _ (r := fun w => .ok (.fsmh (rtField w) (raField w))) (fun _ => rfl)).trans ?_
  simp only [rtField, raField, encRR_a, encRR_t]

theorem gb (rt : RegNum) (ra : RegNum) : Statement (.gb rt ra) := by
  intro _
  refine (decodeWord_encRR _ _ _ _ (r := fun w => .ok (.gb (rtField w) (raField w))) (fun _ => rfl)).trans ?_
  simp only [rtField, raField, encRR_a, encRR_t]

theorem gbb (rt : RegNum) (ra : RegNum) : Statement (.gbb rt ra) := by
  intro _
  refine (decodeWord_encRR _ _ _ _ (r := fun w => .ok (.gbb (rtField w) (raField w))) (fun _ => rfl)).trans ?_
  simp only [rtField, raField, encRR_a, encRR_t]

theorem gbh (rt : RegNum) (ra : RegNum) : Statement (.gbh rt ra) := by
  intro _
  refine (decodeWord_encRR _ _ _ _ (r := fun w => .ok (.gbh (rtField w) (raField w))) (fun _ => rfl)).trans ?_
  simp only [rtField, raField, encRR_a, encRR_t]

theorem il (rt : RegNum) (s16 : BitVec 16) : Statement (.il rt s16) := by
  intro _
  refine (decodeWord_encRI16 _ _ _ (r := fun w => .ok (.il (rtField w) (i16Field w))) (fun _ _ _ => rfl)).trans ?_
  simp only [rtField, i16Field, encRI16_i, encRI16_t]

theorem ila (rt : RegNum) (u18 : BitVec 18) : Statement (.ila rt u18) := by
  intro _
  refine (decodeWord_encRI18 _ _ _ (r := fun w => .ok (.ila (rtField w) (i18Field w))) (fun _ _ _ _ _ => rfl)).trans ?_
  simp only [rtField, i18Field, encRI18_i, encRI18_t]

theorem ilh (rt : RegNum) (u16 : BitVec 16) : Statement (.ilh rt u16) := by
  intro _
  refine (decodeWord_encRI16 _ _ _ (r := fun w => .ok (.ilh (rtField w) (i16Field w))) (fun _ _ _ => rfl)).trans ?_
  simp only [rtField, i16Field, encRI16_i, encRI16_t]

theorem ilhu (rt : RegNum) (u16 : BitVec 16) : Statement (.ilhu rt u16) := by
  intro _
  refine (decodeWord_encRI16 _ _ _ (r := fun w => .ok (.ilhu (rtField w) (i16Field w))) (fun _ _ _ => rfl)).trans ?_
  simp only [rtField, i16Field, encRI16_i, encRI16_t]

theorem iohl (rt : RegNum) (u16 : BitVec 16) : Statement (.iohl rt u16) := by
  intro _
  refine (decodeWord_encRI16 _ _ _ (r := fun w => .ok (.iohl (rtField w) (i16Field w))) (fun _ _ _ => rfl)).trans ?_
  simp only [rtField, i16Field, encRI16_i, encRI16_t]

theorem shufb (rt : RegNum) (ra : RegNum) (rb : RegNum) (rc : RegNum) : Statement (.shufb rt ra rb rc) := by
  intro _
  refine (decodeWord_encRRR _ _ _ _ _ (r := fun w => .ok (.shufb (rrrRtField w) (raField w) (rbField w) (rtField w))) (fun _ _ _ _ _ _ => rfl)).trans ?_
  simp only [rtField, raField, rbField, rrrRtField, encRRR_t, encRRR_b, encRRR_a, encRRR_c]

theorem rot (rt : RegNum) (ra : RegNum) (rb : RegNum) : Statement (.rot rt ra rb) := by
  intro _
  refine (decodeWord_encRR _ _ _ _ (r := fun w => .ok (.rot (rtField w) (raField w) (rbField w))) (fun _ => rfl)).trans ?_
  simp only [rtField, raField, rbField, encRR_b, encRR_a, encRR_t]

theorem roth (rt : RegNum) (ra : RegNum) (rb : RegNum) : Statement (.roth rt ra rb) := by
  intro _
  refine (decodeWord_encRR _ _ _ _ (r := fun w => .ok (.roth (rtField w) (raField w) (rbField w))) (fun _ => rfl)).trans ?_
  simp only [rtField, raField, rbField, encRR_b, encRR_a, encRR_t]

theorem rothi (rt : RegNum) (ra : RegNum) (s7 : BitVec 7) : Statement (.rothi rt ra s7) := by
  intro _
  refine (decodeWord_encRR _ _ _ _ (r := fun w => .ok (.rothi (rtField w) (raField w) (i7Field w))) (fun _ => rfl)).trans ?_
  simp only [rtField, raField, i7Field, encRR_b, encRR_a, encRR_t]

theorem rothm (rt : RegNum) (ra : RegNum) (rb : RegNum) : Statement (.rothm rt ra rb) := by
  intro _
  refine (decodeWord_encRR _ _ _ _ (r := fun w => .ok (.rothm (rtField w) (raField w) (rbField w))) (fun _ => rfl)).trans ?_
  simp only [rtField, raField, rbField, encRR_b, encRR_a, encRR_t]

theorem rothmi (rt : RegNum) (ra : RegNum) (s6 : BitVec 7) : Statement (.rothmi rt ra s6) := by
  intro h
  refine (decodeWord_encRR _ _ _ _ (r := fun w => .ok (.rothmi (rtField w) (raField w) (i7Field w))) (fun _ => rfl)).trans ?_
  simp only [rtField, raField, i7Field, encRR_b, encRR_a, encRR_t]

theorem roti (rt : RegNum) (ra : RegNum) (s7 : BitVec 7) : Statement (.roti rt ra s7) := by
  intro _
  refine (decodeWord_encRR _ _ _ _ (r := fun w => .ok (.roti (rtField w) (raField w) (i7Field w))) (fun _ => rfl)).trans ?_
  simp only [rtField, raField, i7Field, encRR_b, encRR_a, encRR_t]

theorem rotm (rt : RegNum) (ra : RegNum) (rb : RegNum) : Statement (.rotm rt ra rb) := by
  intro _
  refine (decodeWord_encRR _ _ _ _ (r := fun w => .ok (.rotm (rtField w) (raField w) (rbField w))) (fun _ => rfl)).trans ?_
  simp only [rtField, raField, rbField, encRR_b, encRR_a, encRR_t]

theorem rotma (rt : RegNum) (ra : RegNum) (rb : RegNum) : Statement (.rotma rt ra rb) := by
  intro _
  refine (decodeWord_encRR _ _ _ _ (r := fun w => .ok (.rotma (rtField w) (raField w) (rbField w))) (fun _ => rfl)).trans ?_
  simp only [rtField, raField, rbField, encRR_b, encRR_a, encRR_t]

theorem rotmah (rt : RegNum) (ra : RegNum) (rb : RegNum) : Statement (.rotmah rt ra rb) := by
  intro _
  refine (decodeWord_encRR _ _ _ _ (r := fun w => .ok (.rotmah (rtField w) (raField w) (rbField w))) (fun _ => rfl)).trans ?_
  simp only [rtField, raField, rbField, encRR_b, encRR_a, encRR_t]

theorem rotmahi (rt : RegNum) (ra : RegNum) (s6 : BitVec 7) : Statement (.rotmahi rt ra s6) := by
  intro h
  refine (decodeWord_encRR _ _ _ _ (r := fun w => .ok (.rotmahi (rtField w) (raField w) (i7Field w))) (fun _ => rfl)).trans ?_
  simp only [rtField, raField, i7Field, encRR_b, encRR_a, encRR_t]

theorem rotmai (rt : RegNum) (ra : RegNum) (s7 : BitVec 7) : Statement (.rotmai rt ra s7) := by
  intro _
  refine (decodeWord_encRR _ _ _ _ (r := fun w => .ok (.rotmai (rtField w) (raField w) (i7Field w))) (fun _ => rfl)).trans ?_
  simp only [rtField, raField, i7Field, encRR_b, encRR_a, encRR_t]

theorem rotmi (rt : RegNum) (ra : RegNum) (s7 : BitVec 7) : Statement (.rotmi rt ra s7) := by
  intro _
  refine (decodeWord_encRR _ _ _ _ (r := fun w => .ok (.rotmi (rtField w) (raField w) (i7Field w))) (fun _ => rfl)).trans ?_
  simp only [rtField, raField, i7Field, encRR_b, encRR_a, encRR_t]

theorem rotqbi (rt : RegNum) (ra : RegNum) (rb : RegNum) : Statement (.rotqbi rt ra rb) := by
  intro _
  refine (decodeWord_encRR _ _ _ _ (r := fun w => .ok (.rotqbi (rtField w) (raField w) (rbField w))) (fun _ => rfl)).trans ?_
  simp only [rtField, raField, rbField, encRR_b, encRR_a, encRR_t]

theorem rotqbii (rt : RegNum) (ra : RegNum) (u3 : BitVec 7) : Statement (.rotqbii rt ra u3) := by
  intro _
  refine (decodeWord_encRR _ _ _ _ (r := fun w => .ok (.rotqbii (rtField w) (raField w) (i7Field w))) (fun _ => rfl)).trans ?_
  simp only [rtField, raField, i7Field, encRR_b, encRR_a, encRR_t]

theorem rotqby (rt : RegNum) (ra : RegNum) (rb : RegNum) : Statement (.rotqby rt ra rb) := by
  intro _
  refine (decodeWord_encRR _ _ _ _ (r := fun w => .ok (.rotqby (rtField w) (raField w) (rbField w))) (fun _ => rfl)).trans ?_
  simp only [rtField, raField, rbField, encRR_b, encRR_a, encRR_t]

theorem rotqbybi (rt : RegNum) (ra : RegNum) (rb : RegNum) : Statement (.rotqbybi rt ra rb) := by
  intro _
  refine (decodeWord_encRR _ _ _ _ (r := fun w => .ok (.rotqbybi (rtField w) (raField w) (rbField w))) (fun _ => rfl)).trans ?_
  simp only [rtField, raField, rbField, encRR_b, encRR_a, encRR_t]

theorem rotqbyi (rt : RegNum) (ra : RegNum) (s7 : BitVec 7) : Statement (.rotqbyi rt ra s7) := by
  intro _
  refine (decodeWord_encRR _ _ _ _ (r := fun w => .ok (.rotqbyi (rtField w) (raField w) (i7Field w))) (fun _ => rfl)).trans ?_
  simp only [rtField, raField, i7Field, encRR_b, encRR_a, encRR_t]

theorem rotqmbi (rt : RegNum) (ra : RegNum) (rb : RegNum) : Statement (.rotqmbi rt ra rb) := by
  intro _
  refine (decodeWord_encRR _ _ _ _ (r := fun w => .ok (.rotqmbi (rtField w) (raField w) (rbField w))) (fun _ => rfl)).trans ?_
  simp only [rtField, raField, rbField, encRR_b, encRR_a, encRR_t]

theorem rotqmbii (rt : RegNum) (ra : RegNum) (s3 : BitVec 7) : Statement (.rotqmbii rt ra s3) := by
  intro _
  refine (decodeWord_encRR _ _ _ _ (r := fun w => .ok (.rotqmbii (rtField w) (raField w) (i7Field w))) (fun _ => rfl)).trans ?_
  simp only [rtField, raField, i7Field, encRR_b, encRR_a, encRR_t]

theorem rotqmby (rt : RegNum) (ra : RegNum) (rb : RegNum) : Statement (.rotqmby rt ra rb) := by
  intro _
  refine (decodeWord_encRR _ _ _ _ (r := fun w => .ok (.rotqmby (rtField w) (raField w) (rbField w))) (fun _ => rfl)).trans ?_
  simp only [rtField, raField, rbField, encRR_b, encRR_a, encRR_t]

theorem rotqmbybi (rt : RegNum) (ra : RegNum) (rb : RegNum) : Statement (.rotqmbybi rt ra rb) := by
  intro _
  refine (decodeWord_encRR _ _ _ _ (r := fun w => .ok (.rotqmbybi (rtField w) (raField w) (rbField w))) (fun _ => rfl)).trans ?_
  simp only [rtField, raField, rbField, encRR_b, encRR_a, encRR_t]

theorem rotqmbyi (rt : RegNum) (ra : RegNum) (s6 : BitVec 7) : Statement (.rotqmbyi rt ra s6) := by
  intro h
  refine (decodeWord_encRR _ _ _ _ (r := fun w => .ok (.rotqmbyi (rtField w) (raField w) (i7Field w))) (fun _ => rfl)).trans ?_
  simp only [rtField, raField, i7Field, encRR_b, encRR_a, encRR_t]

theorem shl (rt : RegNum) (ra : RegNum) (rb : RegNum) : Statement (.shl rt ra rb) := by
  intro _
  refine (decodeWord_encRR _ _ _ _ (r := fun w => .ok (.shl (rtField w) (raField w) (rbField w))) (fun _ => rfl)).trans ?_
  simp only [rtField, raField, rbField, encRR_b, encRR_a, encRR_t]

theorem shlh (rt : RegNum) (ra : RegNum) (rb : RegNum) : Statement (.shlh rt ra rb) := by
  intro _
  refine (decodeWord_encRR _ _ _ _ (r := fun w => .ok (.shlh (rtField w) (raField w) (rbField w))) (fun _ => rfl)).trans ?_
  simp only [rtField, raField, rbField, encRR_b, encRR_a, encRR_t]

theorem shlhi (rt : RegNum) (ra : RegNum) (u5 : BitVec 7) : Statement (.shlhi rt ra u5) := by
  intro h
  refine (decodeWord_encRR _ _ _ _ (r := fun w => .ok (.shlhi (rtField w) (raField w) (i7Field w))) (fun _ => rfl)).trans ?_
  simp only [rtField, raField, i7Field, encRR_b, encRR_a, encRR_t]

theorem shli (rt : RegNum) (ra : RegNum) (u6 : BitVec 7) : Statement (.shli rt ra u6) := by
  intro h
  refine (decodeWord_encRR _ _ _ _ (r := fun w => .ok (.shli (rtField w) (raField w) (i7Field w))) (fun _ => rfl)).trans ?_
  simp only [rtField, raField, i7Field, encRR_b, encRR_a, encRR_t]

theorem shlqbi (rt : RegNum) (ra : RegNum) (rb : RegNum) : Statement (.shlqbi rt ra rb) := by
  intro _
  refine (decodeWord_encRR _ _ _ _ (r := fun w => .ok (.shlqbi (rtField w) (raField w) (rbField w))) (fun _ => rfl)).trans ?_
  simp only [rtField, raField, rbField, encRR_b, encRR_a, encRR_t]

theorem shlqbii (rt : RegNum) (ra : RegNum) (u3 : BitVec 7) : Statement (.shlqbii rt ra u3) := by
  intro h
  refine (decodeWord_encRR _ _ _ _ (r := fun w => .ok (.shlqbii (rtField w) (raField w) (i7Field w))) (fun _ => rfl)).trans ?_
  simp only [rtField, raField, i7Field, encRR_b, encRR_a, encRR_t]

theorem shlqby (rt : RegNum) (ra : RegNum) (rb : RegNum) : Statement (.shlqby rt ra rb) := by
  intro _
  refine (decodeWord_encRR _ _ _ _ (r := fun w => .ok (.shlqby (rtField w) (raField w) (rbField w))) (fun _ => rfl)).trans ?_
  simp only [rtField, raField, rbField, encRR_b, encRR_a, encRR_t]

theorem shlqbybi (rt : RegNum) (ra : RegNum) (rb : RegNum) : Statement (.shlqbybi rt ra rb) := by
  intro _
  refine (decodeWord_encRR _ _ _ _ (r := fun w => .ok (.shlqbybi (rtField w) (raField w) (rbField w))) (fun _ => rfl)).trans ?_
  simp only [rtField, raField, rbField, encRR_b, encRR_a, encRR_t]

theorem shlqbyi (rt : RegNum) (ra : RegNum) (u5 : BitVec 7) : Statement (.shlqbyi rt ra u5) := by
  intro h
  refine (decodeWord_encRR _ _ _ _ (r := fun w => .ok (.shlqbyi (rtField w) (raField w) (i7Field w))) (fun _ => rfl)).trans ?_
  simp only [rtField, raField, i7Field, encRR_b, encRR_a, encRR_t]

theorem ceq (rt : RegNum) (ra : RegNum) (rb : RegNum) : Statement (.ceq rt ra rb) := by
  intro _
  refine (decodeWord_encRR _ _ _ _ (r := fun w => .ok (.ceq (rtField w) (raField w) (rbField w))) (fun _ => rfl)).trans ?_
  simp only [rtField, raField, rbField, encRR_b, encRR_a, encRR_t]

theorem ceqb (rt : RegNum) (ra : RegNum) (rb : RegNum) : Statement (.ceqb rt ra rb) := by
  intro _
  refine (decodeWord_encRR _ _ _ _ (r := fun w => .ok (.ceqb (rtField w) (raField w) (rbField w))) (fun _ => rfl)).trans ?_
  simp only [rtField, raField, rbField, encRR_b, encRR_a, encRR_t]

theorem ceqbi (rt : RegNum) (ra : RegNum) (s10 : BitVec 10) : Statement (.ceqbi rt ra s10) := by
  intro _
  refine (decodeWord_encRI10 _ _ _ _ (r := fun w => .ok (.ceqbi (rtField w) (raField w) (i10Field w))) (fun _ _ _ _ => rfl)).trans ?_
  simp only [rtField, raField, i10Field, encRI10_i, encRI10_a, encRI10_t]

theorem ceqh (rt : RegNum) (ra : RegNum) (rb : RegNum) : Statement (.ceqh rt ra rb) := by
  intro _
  refine (decodeWord_encRR _ _ _ _ (r := fun w => .ok (.ceqh (rtField w) (raField w) (rbField w))) (fun _ => rfl)).trans ?_
  simp only [rtField, raField, rbField, encRR_b, encRR_a, encRR_t]

theorem ceqhi (rt : RegNum) (ra : RegNum) (s10 : BitVec 10) : Statement (.ceqhi rt ra s10) := by
  intro _
  refine (decodeWord_encRI10 _ _ _ _ (r := fun w => .ok (.ceqhi (rtField w) (raField w) (i10Field w))) (fun _ _ _ _ => rfl)).trans ?_
  simp only [rtField, raField, i10Field, encRI10_i, encRI10_a, encRI10_t]

theorem ceqi (rt : RegNum) (ra : RegNum) (s10 : BitVec 10) : Statement (.ceqi rt ra s10) := by
  intro _
  refine (decodeWord_encRI10 _ _ _ _ (r := fun w => .ok (.ceqi (rtField w) (raField w) (i10Field w))) (fun _ _ _ _ => rfl)).trans ?_
  simp only [rtField, raField, i10Field, encRI10_i, encRI10_a, encRI10_t]

theorem cgt (rt : RegNum) (ra : RegNum) (rb : RegNum) : Statement (.cgt rt ra rb) := by
  intro _
  refine (decodeWord_encRR _ _ _ _ (r := fun w => .ok (.cgt (rtField w) (raField w) (rbField w))) (fun _ => rfl)).trans ?_
  simp only [rtField, raField, rbField, encRR_b, encRR_a, encRR_t]

theorem cgtb (rt : RegNum) (ra : RegNum) (rb : RegNum) : Statement (.cgtb rt ra rb) := by
  intro _
  refine (decodeWord_encRR _ _ _ _ (r := fun w => .ok (.cgtb (rtField w) (raField w) (rbField w))) (fun _ => rfl)).trans ?_
  simp only [rtField, raField, rbField, encRR_b, encRR_a, encRR_t]

theorem cgtbi (rt : RegNum) (ra : RegNum) (s10 : BitVec 10) : Statement (.cgtbi rt ra s10) := by
  intro _
  refine (decodeWord_encRI10 _ _ _ _ (r := fun w => .ok (.cgtbi (rtField w) (raField w) (i10Field w))) (fun _ _ _ _ => rfl)).trans ?_
  simp only [rtField, raField, i10Field, encRI10_i, encRI10_a, encRI10_t]

theorem cgth (rt : RegNum) (ra : RegNum) (rb : RegNum) : Statement (.cgth rt ra rb) := by
  intro _
  refine (decodeWord_encRR _ _ _ _ (r := fun w => .ok (.cgth (rtField w) (raField w) (rbField w))) (fun _ => rfl)).trans ?_
  simp only [rtField, raField, rbField, encRR_b, encRR_a, encRR_t]

theorem cgthi (rt : RegNum) (ra : RegNum) (s10 : BitVec 10) : Statement (.cgthi rt ra s10) := by
  intro _
  refine (decodeWord_encRI10 _ _ _ _ (r := fun w => .ok (.cgthi (rtField w) (raField w) (i10Field w))) (fun _ _ _ _ => rfl)).trans ?_
  simp only [rtField, raField, i10Field, encRI10_i, encRI10_a, encRI10_t]

theorem cgti (rt : RegNum) (ra : RegNum) (s10 : BitVec 10) : Statement (.cgti rt ra s10) := by
  intro _
  refine (decodeWord_encRI10 _ _ _ _ (r := fun w => .ok (.cgti (rtField w) (raField w) (i10Field w))) (fun _ _ _ _ => rfl)).trans ?_
  simp only [rtField, raField, i10Field, encRI10_i, encRI10_a, encRI10_t]

theorem clgt (rt : RegNum) (ra : RegNum) (rb : RegNum) : Statement (.clgt rt ra rb) := by
  intro _
  refine (decodeWord_encRR _ _ _ _ (r := fun w => .ok (.clgt (rtField w) (raField w) (rbField w))) (fun _ => rfl)).trans ?_
  simp only [rtField, raField, rbField, encRR_b, encRR_a, encRR_t]

theorem clgtb (rt : RegNum) (ra : RegNum) (rb : RegNum) : Statement (.clgtb rt ra rb) := by
  intro _
  refine (decodeWord_encRR _ _ _ _ (r := fun w => .ok (.clgtb (rtField w) (raField w) (rbField w))) (fun _ => rfl)).trans ?_
  simp only [rtField, raField, rbField, encRR_b, encRR_a, encRR_t]

theorem clgtbi (rt : RegNum) (ra : RegNum) (s10 : BitVec 10) : Statement (.clgtbi rt ra s10) := by
  intro _
  refine (decodeWord_encRI10 _ _ _ _ (r := fun w => .ok (.clgtbi (rtField w) (raField w) (i10Field w))) (fun _ _ _ _ => rfl)).trans ?_
  simp only [rtField, raField, i10Field, encRI10_i, encRI10_a, encRI10_t]

theorem clgth (rt : RegNum) (ra : RegNum) (rb : RegNum) : Statement (.clgth rt ra rb) := by
  intro _
  refine (decodeWord_encRR _ _ _ _ (r := fun w => .ok (.clgth (rtField w) (raField w) (rbField w))) (fun _ => rfl)).trans ?_
  simp only [rtField, raField, rbField, encRR_b, encRR_a, encRR_t]

theorem clgthi (rt : RegNum) (ra : RegNum) (s10 : BitVec 10) : Statement (.clgthi rt ra s10) := by
  intro _
  refine (decodeWord_encRI10 _ _ _ _ (r := fun w => .ok (.clgthi (rtField w) (raField w) (i10Field w))) (fun _ _ _ _ => rfl)).trans ?_
  simp only [rtField, raField, i10Field, encRI10_i, encRI10_a, encRI10_t]

theorem clgti (rt : RegNum) (ra : RegNum) (s10 : BitVec 10) : Statement (.clgti rt ra s10) := by
  intro _
  refine (decodeWord_encRI10 _ _ _ _ (r := fun w => .ok (.clgti (rtField w) (raField w) (i10Field w))) (fun _ _ _ _ => rfl)).trans ?_
  simp only [rtField, raField, i10Field, encRI10_i, encRI10_a, encRI10_t]

theorem heq (rt : RegNum) (ra : RegNum) (rb : RegNum) : Statement (.heq rt ra rb) := by
  intro _
  refine (decodeWord_encRR _ _ _ _ (r := fun w => .ok (.heq (rtField w) (raField w) (rbField w))) (fun _ => rfl)).trans ?_
  simp only [rtField, raField, rbField, encRR_b, encRR_a, encRR_t]

theorem heqi (rt : RegNum) (ra : RegNum) (s10 : BitVec 10) : Statement (.heqi rt ra s10) := by
  intro _
  refine (decodeWord_encRI10 _ _ _ _ (r := fun w => .ok (.heqi (rtField w) (raField w) (i10Field w))) (fun _ _ _ _ => rfl)).trans ?_
  simp only [rtField, raField, i10Field, encRI10_i, encRI10_a, encRI10_t]

theorem hgt (rt : RegNum) (ra : RegNum) (rb : RegNum) : Statement (.hgt rt ra rb) := by
  intro _
  refine (decodeWord_encRR _ _ _ _ (r := fun w => .ok (.hgt (rtField w) (raField w) (rbField w))) (fun _ => rfl)).trans ?_
  simp only [rtField, raField, rbField, encRR_b, encRR_a, encRR_t]

theorem hgti (rt : RegNum) (ra : RegNum) (s10 : BitVec 10) : Statement (.hgti rt ra s10) := by
  intro _
  refine (decodeWord_encRI10 _ _ _ _ (r := fun w => .ok (.hgti (rtField w) (raField w) (i10Field w))) (fun _ _ _ _ => rfl)).trans ?_
  simp only [rtField, raField, i10Field, encRI10_i, encRI10_a, encRI10_t]

theorem hlgt (rt : RegNum) (ra : RegNum) (rb : RegNum) : Statement (.hlgt rt ra rb) := by
  intro _
  refine (decodeWord_encRR _ _ _ _ (r := fun w => .ok (.hlgt (rtField w) (raField w) (rbField w))) (fun _ => rfl)).trans ?_
  simp only [rtField, raField, rbField, encRR_b, encRR_a, encRR_t]

theorem hlgti (rt : RegNum) (ra : RegNum) (s10 : BitVec 10) : Statement (.hlgti rt ra s10) := by
  intro _
  refine (decodeWord_encRI10 _ _ _ _ (r := fun w => .ok (.hlgti (rtField w) (raField w) (i10Field w))) (fun _ _ _ _ => rfl)).trans ?_
  simp only [rtField, raField, i10Field, encRI10_i, encRI10_a, encRI10_t]

theorem bi (ra : RegNum) : Statement (.bi ra) := by
  intro _
  refine (decodeWord_encRR _ _ _ _ (r := fun w => interruptForms w (.bi (raField w)) (.bid (raField w)) (.bie (raField w))) (fun _ => rfl)).trans ?_
  simp only [interruptForms, bitD, bitE, raField, encRR_a, encRR_bit19, encRR_bit18]
  rfl

theorem bid (ra : RegNum) : Statement (.bid ra) := by
  intro _
  refine (decodeWord_encRR _ _ _ _ (r := fun w => interruptForms w (.bi (raField w)) (.bid (raField w)) (.bie (raField w))) (fun _ => rfl)).trans ?_
  simp only [interruptForms, bitD, bitE, raField, encRR_a, encRR_bit19, encRR_bit18]
  rfl

theorem bie (ra : RegNum) : Statement (.bie ra) := by
  intro _
  refine (decodeWord_encRR _ _ _ _ (r := fun w => interruptForms w (.bi (raField w)) (.bid (raField w)) (.bie (raField w))) (fun _ => rfl)).trans ?_
  simp only [interruptForms, bitD, bitE, raField, encRR_a, encRR_bit19, encRR_bit18]
  rfl

theorem bihnz (rc : RegNum) (ra : RegNum) : Statement (.bihnz rc ra) := by
  intro _
  refine (decodeWord_encRR _ _ _ _ (r := fun w => interruptForms w (.bihnz (rtField w) (raField w)) (.bihnzd (rtField w) (raField w)) (.bihnze (rtField w) (raField w))) (fun _ => rfl)).trans ?_
  simp only [interruptForms, bitD, bitE, rtField, raField, encRR_a, encRR_t, encRR_bit19, encRR_bit18]
  rfl

theorem bihnzd (rc : RegNum) (ra : RegNum) : Statement (.bihnzd rc ra) := by
  intro _
  refine (decodeWord_encRR _ _ _ _ (r := fun w => interruptForms w (.bihnz (rtField w) (raField w)) (.bihnzd (rtField w) (raField w)) (.bihnze (rtField w) (raField w))) (fun _ => rfl)).trans ?_
  simp only [interruptForms, bitD, bitE, rtField, raField, encRR_a, encRR_t, encRR_bit19, encRR_bit18]
  rfl

theorem bihnze (rc : RegNum) (ra : RegNum) : Statement (.bihnze rc ra) := by
  intro _
  refine (decodeWord_encRR _ _ _ _ (r := fun w => interruptForms w (.bihnz (rtField w) (raField w)) (.bihnzd (rtField w) (raField w)) (.bihnze (rtField w) (raField w))) (fun _ => rfl)).trans ?_
  simp only [interruptForms, bitD, bitE, rtField, raField, encRR_a, encRR_t, encRR_bit19, encRR_bit18]
  rfl

theorem bihz (rc : RegNum) (ra : RegNum) : Statement (.bihz rc ra) := by
  intro _
  refine (decodeWord_encRR _ _ _ _ (r := fun w => interruptForms w (.bihz (rtField w) (raField w)) (.bihzd (rtField w) (raField w)) (.bihze (rtField w) (raField w))) (fun _ => rfl)).trans ?_
  simp only [interruptForms, bitD, bitE, rtField, raField, encRR_a, encRR_t, encRR_bit19, encRR_bit18]
  rfl

theorem bihzd (rc : RegNum) (ra : RegNum) : Statement (.bihzd rc ra) := by
  intro _
  refine (decodeWord_encRR _ _ _ _ (r := fun w => interruptForms w (.bihz (rtField w) (raField w)) (.bihzd (rtField w) (raField w)) (.bihze (rtField w) (raField w))) (fun _ => rfl)).trans ?_
  simp only [interruptForms, bitD, bitE, rtField, raField, encRR_a, encRR_t, encRR_bit19, encRR_bit18]
  rfl

theorem bihze (rc : RegNum) (ra : RegNum) : Statement (.bihze rc ra) := by
  intro _
  refine (decodeWord_encRR _ _ _ _ (r := fun w => interruptForms w (.bihz (rtField w) (raField w)) (.bihzd (rtField w) (raField w)) (.bihze (rtField w) (raField w))) (fun _ => rfl)).trans ?_
  simp only [interruptForms, bitD, bitE, rtField, raField, encRR_a, encRR_t, encRR_bit19, encRR_bit18]
  rfl

theorem binz (rc : RegNum) (ra : RegNum) : Statement (.binz rc ra) := by
  intro _
  refine (decodeWord_encRR _ _ _ _ (r := fun w => interruptForms w (.binz (rtField w) (raField w)) (.binzd (rtField w) (raField w)) (.binze (rtField w) (raField w))) (fun _ => rfl)).trans ?_
  simp only [interruptForms, bitD, bitE, rtField, raField, encRR_a, encRR_t, encRR_bit19, encRR_bit18]
  rfl

theorem binzd (rc : RegNum) (ra : RegNum) : Statement (.binzd rc ra) := by
  intro _
  refine (decodeWord_encRR _ _ _ _ (r := fun w => interruptForms w (.binz (rtField w) (raField w)) (.binzd (rtField w) (raField w)) (.binze (rtField w) (raField w))) (fun _ => rfl)).trans ?_
  simp only [interruptForms, bitD, bitE, rtField, raField, encRR_a, encRR_t, encRR_bit19, encRR_bit18]
  rfl

theorem binze (rc : RegNum) (ra : RegNum) : Statement (.binze rc ra) := by
  intro _
  refine (decodeWord_encRR _ _ _ _ (r := fun w => interruptForms w (.binz (rtField w) (raField w)) (.binzd (rtField w) (raField w)) (.binze (rtField w) (raField w))) (fun _ => rfl)).trans ?_
  simp only [interruptForms, bitD, bitE, rtField, raField, encRR_a, encRR_t, encRR_bit19, encRR_bit18]
  rfl

theorem bisl (rt : RegNum) (ra : RegNum) : Statement (.bisl rt ra) := by
  intro _
  refine (decodeWord_encRR _ _ _ _ (r := fun w => interruptForms w (.bisl (rtField w) (raField w)) (.bisld (rtField w) (raField w)) (.bisle (rtField w) (raField w))) (fun _ => rfl)).trans ?_
  simp only [interruptForms, bitD, bitE, rtField, raField, encRR_a, encRR_t, encRR_bit19, encRR_bit18]
  rfl

theorem bisld (rt : RegNum) (ra : RegNum) : Statement (.bisld rt ra) := by
  intro _
  refine (decodeWord_encRR _ _ _ _ (r := fun w => interruptForms w (.bisl (rtField w) (raField w)) (.bisld (rtField w) (raField w)) (.bisle (rtField w) (raField w))) (fun _ => rfl)).trans ?_
  simp only [interruptForms, bitD, bitE, rtField, raField, encRR_a, encRR_t, encRR_bit19, encRR_bit18]
  rfl

theorem bisle (rt : RegNum) (ra : RegNum) : Statement (.bisle rt ra) := by
  intro _
  refine (decodeWord_encRR _ _ _ _ (r := fun w => interruptForms w (.bisl (rtField w) (raField w)) (.bisld (rtField w) (raField w)) (.bisle (rtField w) (raField w))) (fun _ => rfl)).trans ?_
  simp only [interruptForms, bitD, bitE, rtField, raField, encRR_a, encRR_t, encRR_bit19, encRR_bit18]
  rfl

theorem bisled (rt : RegNum) (ra : RegNum) : Statement (.bisled rt ra) := by
  intro _
  refine (decodeWord_encRR _ _ _ _ (r := fun w => interruptForms w (.bisled (rtField w) (raField w)) (.bisledd (rtField w) (raField w)) (.bislede (rtField w) (raField w))) (fun _ => rfl)).trans ?_
  simp only [interruptForms, bitD, bitE, rtField, raField, encRR_a, encRR_t, encRR_bit19, encRR_bit18]
  rfl

theorem bisledd (rt : RegNum) (ra : RegNum) : Statement (.bisledd rt ra) := by
  intro _
  refine (decodeWord_encRR _ _ _ _ (r := fun w => interruptForms w (.bisled (rtField w) (raField w)) (.bisledd (rtField w) (raField w)) (.bislede (rtField w) (raField w))) (fun _ => rfl)).trans ?_
  simp only [interruptForms, bitD, bitE, rtField, raField, encRR_a, encRR_t, encRR_bit19, encRR_bit18]
  rfl

theorem bislede (rt : RegNum) (ra : RegNum) : Statement (.bislede rt ra) := by
  intro _
  refine (decodeWord_encRR _ _ _ _ (r := fun w => interruptForms w (.bisled (rtField w) (raField w)) (.bisledd (rtField w) (raField w)) (.bislede (rtField w) (raField w))) (fun _ => rfl)).trans ?_
  simp only [interruptForms, bitD, bitE, rtField, raField, encRR_a, encRR_t, encRR_bit19, encRR_bit18]
  rfl

theorem biz (rc : RegNum) (ra : RegNum) : Statement (.biz rc ra) := by
  intro _
  refine (decodeWord_encRR _ _ _ _ (r := fun w => interruptForms w (.biz (rtField w) (raField w)) (.bizd (rtField w) (raField w)) (.bize (rtField w) (raField w))) (fun _ => rfl)).trans ?_
  simp only [interruptForms, bitD, bitE, rtField, raField, encRR_a, encRR_t, encRR_bit19, encRR_bit18]
  rfl

theorem bizd (rc : RegNum) (ra : RegNum) : Statement (.bizd rc ra) := by
  intro _
  refine (decodeWord_encRR _ _ _ _ (r := fun w => interruptForms w (.biz (rtField w) (raField w)) (.bizd (rtField w) (raField w)) (.bize (rtField w) (raField w))) (fun _ => rfl)).trans ?_
  simp only [interruptForms, bitD, bitE, rtField, raField, encRR_a, encRR_t, encRR_bit19, encRR_bit18]
  rfl

theorem bize (rc : RegNum) (ra : RegNum) : Statement (.bize rc ra) := by
  intro _
  refine (decodeWord_encRR _ _ _ _ (r := fun w => interruptForms w (.biz (rtField w) (raField w)) (.bizd (rtField w) (raField w)) (.bize (rtField w) (raField w))) (fun _ => rfl)).trans ?_
  simp only [interruptForms, bitD, bitE, rtField, raField, encRR_a, encRR_t, encRR_bit19, encRR_bit18]
  rfl

theorem br (s18 : BitVec 18) : Statement (.br s18) := by
  intro h
  refine (decodeWord_encRI16 _ _ _ (r := fun w => .ok (.br (i16Field w ++ 0#2))) (fun _ _ _ => rfl)).trans ?_
  simp only [i16Field, encRI16_i]
  rw [s18_field h]

theorem bra (s18 : BitVec 18) : Statement (.bra s18) := by
  intro h
  refine (decodeWord_encRI16 _ _ _ (r := fun w => .ok (.bra (i16Field w ++ 0#2))) (fun _ _ _ => rfl)).trans ?_
  simp only [i16Field, encRI16_i]
  rw [s18_field h]

theorem brasl (rt : RegNum) (s18 : BitVec 18) : Statement (.brasl rt s18) := by
  intro h
  refine (decodeWord_encRI16 _ _ _ (r := fun w => .ok (.brasl (rtField w) (i16Field w ++ 0#2))) (fun _ _ _ => rfl)).trans ?_
  simp only [rtField, i16Field, encRI16_i, encRI16_t]
  rw [s18_field h]

theorem brhnz (rc : RegNum) (s18 : BitVec 18) : Statement (.brhnz rc s18) := by
  intro h
  refine (decodeWord_encRI16 _ _ _ (r := fun w => .ok (.brhnz (rtField w) (i16Field w ++ 0#2))) (fun _ _ _ => rfl)).trans ?_
  simp only [rtField, i16Field, encRI16_i, encRI16_t]
  rw [s18_field h]

theorem brhz (rc : RegNum) (s18 : BitVec 18) : Statement (.brhz rc s18) := by
  intro h
  refine (decodeWord_encRI16 _ _ _ (r := fun w => .ok (.brhz (rtField w) (i16Field w ++ 0#2))) (fun _ _ _ => rfl)).trans ?_
  simp only [rtField, i16Field, encRI16_i, encRI16_t]
  rw [s18_field h]

theorem brnz (rc : RegNum) (s18 : BitVec 18) : Statement (.brnz rc s18) := by
  intro h
  refine (decodeWord_encRI16 _ _ _ (r := fun w => .ok (.brnz (rtField w) (i16Field w ++ 0#2))) (fun _ _ _ => rfl)).trans ?_
  simp only [rtField, i16Field, encRI16_i, encRI16_t]
  rw [s18_field h]

theorem brsl (rt : RegNum) (s18 : BitVec 18) : Statement (.brsl rt s18) := by
  intro h
  refine (decodeWord_encRI16 _ _ _ (r := fun w => .ok (.brsl (rtField w) (i16Field w ++ 0#2))) (fun _ _ _ => rfl)).trans ?_
  simp only [rtField, i16Field, encRI16_i, encRI16_t]
  rw [s18_field h]

theorem brz (rc : RegNum) (s18 : BitVec 18) : Statement (.brz rc s18) := by
  intro h
  refine (decodeWord_encRI16 _ _ _ (r := fun w => .ok (.brz (rtField w) (i16Field w ++ 0#2))) (fun _ _ _ => rfl)).trans ?_
  simp only [rtField, i16Field, encRI16_i, encRI16_t]
  rw [s18_field h]

theorem hbr (s11 : BitVec 11) (ra : RegNum) : Statement (.hbr s11 ra) := by
  intro h
  refine (decodeWord_encLBTI _ _ _ _ (r := fun w => hintForms w) (fun _ => rfl)).trans ?_
  simp only [hintForms, bit11, lbtiRohField, raField, rtField, encLBTI_bit20, encLBTI_roh, encLBTI_a, encLBTI_rol]
  rw [s11_field h]
  rfl

theorem hbra (s11 : BitVec 11) (s18 : BitVec 18) : Statement (.hbra s11 s18) := by
  intro h
  refine (decodeWord_encLBT _ _ _ _ (r := fun w => .ok (.hbra (lbtRohField w ++ rtField w ++ 0#2) (i16Field w ++ 0#2))) (fun _ _ _ _ _ => rfl)).trans ?_
  obtain ⟨h11, h18⟩ := Bool.and_eq_true_iff.mp h
  simp only [rtField, i16Field, lbtRohField, encLBT_roh, encLBT_i, encLBT_rol]
  rw [s11_field h11, s18_field h18]

theorem hbrp : Statement (.hbrp) := by
  intro _
  refine (decodeWord_encRR _ _ _ _ (r := fun w => hintForms w) (fun _ => rfl)).trans ?_
  rfl

theorem hbrr (s11 : BitVec 11) (s18 : BitVec 18) : Statement (.hbrr s11 s18) := by
  intro h
  refine (decodeWord_encLBT _ _ _ _ (r := fun w => .ok (.hbrr (lbtRohField w ++ rtField w ++ 0#2) (i16Field w ++ 0#2))) (fun _ _ _ _ _ => rfl)).trans ?_
  obtain ⟨h11, h18⟩ := Bool.and_eq_true_iff.mp h
  simp only [rtField, i16Field, lbtRohField, encLBT_roh, encLBT_i, encLBT_rol]
  rw [s11_field h11, s18_field h18]

theorem iret (ra : RegNum) : Statement (.iret ra) := by
  intro _
  refine (decodeWord_encRR _ _ _ _ (r := fun w => interruptForms w (.iret (raField w)) (.iretd (raField w)) (.irete (raField w))) (fun _ => rfl)).trans ?_
  simp only [interruptForms, bitD, bitE, raField, encRR_a, encRR_bit19, encRR_bit18]
  rfl

theorem iretd (ra : RegNum) : Statement (.iretd ra) := by
  intro _
  refine (decodeWord_encRR _ _ _ _ (r := fun w => interruptForms w (.iret (raField w)) (.iretd (raField w)) (.irete (raField w))) (fun _ => rfl)).trans ?_
  simp only [interruptForms, bitD, bitE, raField, encRR_a, encRR_bit19, encRR_bit18]
  rfl

theorem irete (ra : RegNum) : Statement (.irete ra) := by
  intro _
  refine (decodeWord_encRR _ _ _ _ (r := fun w => interruptForms w (.iret (raField w)) (.iretd (raField w)) (.irete (raField w))) (fun _ => rfl)).trans ?_
  simp only [interruptForms, bitD, bitE, raField, encRR_a, encRR_bit19, encRR_bit18]
  rfl

theorem lqa (rt : RegNum) (s18 : BitVec 18) : Statement (.lqa rt s18) := by
  intro h
  refine (decodeWord_encRI16 _ _ _ (r := fun w => .ok (.lqa (rtField w) (i16Field w ++ 0#2))) (fun _ _ _ => rfl)).trans ?_
  simp only [rtField, i16Field, encRI16_i, encRI16_t]
  rw [s18_field h]

theorem lqd (rt : RegNum) (s14 : BitVec 14) (ra : RegNum) : Statement (.lqd rt s14 ra) := by
  intro h
  refine (decodeWord_encRI10 _ _ _ _ (r := fun w => .ok (.lqd (rtField w) (i10Field w ++ 0#4) (raField w))) (fun _ _ _ _ => rfl)).trans ?_
  simp only [rtField, raField, i10Field, encRI10_i, encRI10_a, encRI10_t]
  rw [s14_field h]

theorem lqr (rt : RegNum) (s18 : BitVec 18) : Statement (.lqr rt s18) := by
  intro h
  refine (decodeWord_encRI16 _ _ _ (r := fun w => .ok (.lqr (rtField w) (i16Field w ++ 0#2))) (fun _ _ _ => rfl)).trans ?_
  simp only [rtField, i16Field, encRI16_i, encRI16_t]
  rw [s18_field h]

theorem lqx (rt : RegNum) (ra : RegNum) (rb : RegNum) : Statement (.lqx rt ra rb) := by
  intro _
  refine (decodeWord_encRR _ _ _ _ (r := fun w => .ok (.lqx (rtField w) (raField w) (rbField w))) (fun _ => rfl)).trans ?_
  simp only [rtField, raField, rbField, encRR_b, encRR_a, encRR_t]

theorem stqa (rc : RegNum) (s18 : BitVec 18) : Statement (.stqa rc s18) := by
  intro h
  refine (decodeWord_encRI16 _ _ _ (r := fun w => .ok (.stqa (rtField w) (i16Field w ++ 0#2))) (fun _ _ _ => rfl)).trans ?_
  simp only [rtField, i16Field, encRI16_i, encRI16_t]
  rw [s18_field h]

theorem stqd (rc : RegNum) (s14 : BitVec 14) (ra : RegNum) : Statement (.stqd rc s14 ra) := by
  intro h
  refine (decodeWord_encRI10 _ _ _ _ (r := fun w => .ok (.stqd (rtField w) (i10Field w ++ 0#4) (raField w))) (fun _ _ _ _ => rfl)).trans ?_
  simp only [rtField, raField, i10Field, encRI10_i, encRI10_a, encRI10_t]
  rw [s14_field h]

theorem stqr (rc : RegNum) (s18 : BitVec 18) : Statement (.stqr rc s18) := by
  intro h
  refine (decodeWord_encRI16 _ _ _ (r := fun w => .ok (.stqr (rtField w) (i16Field w ++ 0#2))) (fun _ _ _ => rfl)).trans ?_
  simp only [rtField, i16Field, encRI16_i, encRI16_t]
  rw [s18_field h]

theorem stqx (rc : RegNum) (ra : RegNum) (rb : RegNum) : Statement (.stqx rc ra rb) := by
  intro _
  refine (decodeWord_encRR _ _ _ _ (r := fun w => .ok (.stqx (rtField w) (raField w) (rbField w))) (fun _ => rfl)).trans ?_
  simp only [rtField, raField, rbField, encRR_b, encRR_a, encRR_t]

theorem cflts (rt : RegNum) (ra : RegNum) (scale : BitVec 8) : Statement (.cflts rt ra scale) := by
  intro h
  refine (decodeWord_encRI8 _ _ _ _ (r := fun w => .ok (.cflts (rtField w) (raField w) (173 - i8Field w))) (fun _ _ => rfl)).trans ?_
  simp only [rtField, raField, i8Field, encRI8_i, encRI8_a, encRI8_t, scale_field]

theorem cfltu (rt : RegNum) (ra : RegNum) (scale : BitVec 8) : Statement (.cfltu rt ra scale) := by
  intro h
  refine (decodeWord_encRI8 _ _ _ _ (r := fun w => .ok (.cfltu (rtField w) (raField w) (173 - i8Field w))) (fun _ _ => rfl)).trans ?_
  simp only [rtField, raField, i8Field, encRI8_i, encRI8_a, encRI8_t, scale_field]

theorem csflt (rt : RegNum) (ra : RegNum) (scale : BitVec 8) : Statement (.csflt rt ra scale) := by
  intro h
  refine (decodeWord_encRI8 _ _ _ _ (r := fun w => .ok (.csflt (rtField w) (raField w) (155 - i8Field w))) (fun _ _ => rfl)).trans ?_
  simp only [rtField, raField, i8Field, encRI8_i, encRI8_a, encRI8_t, scale_field]

theorem cuflt (rt : RegNum) (ra : RegNum) (scale : BitVec 8) : Statement (.cuflt rt ra scale) := by
  intro h
  refine (decodeWord_encRI8 _ _ _ _ (r := fun w => .ok (.cuflt (rtField w) (raField w) (155 - i8Field w))) (fun _ _ => rfl)).trans ?_
  simp only [rtField, raField, i8Field, encRI8_i, encRI8_a, encRI8_t, scale_field]

theorem dfa (rt : RegNum) (ra : RegNum) (rb : RegNum) : Statement (.dfa rt ra rb) := by
  intro _
  refine (decodeWord_encRR _ _ _ _ (r := fun w => .ok (.dfa (rtField w) (raField w) (rbField w))) (fun _ => rfl)).trans ?_
  simp only [rtField, raField, rbField, encRR_b, encRR_a, encRR_t]

theorem dfm (rt : RegNum) (ra : RegNum) (rb : RegNum) : Statement (.dfm rt ra rb) := by
  intro _
  refine (decodeWord_encRR _ _ _ _ (r := fun w => .ok (.dfm (rtField w) (raField w) (rbField w))) (fun _ => rfl)).trans ?_
  simp only [rtField, raField, rbField, encRR_b, encRR_a, encRR_t]

theorem dfma (rt : RegNum) (ra : RegNum) (rb : RegNum) : Statement (.dfma rt ra rb) := by
  intro _
  refine (decodeWord_encRR _ _ _ _ (r := fun w => .ok (.dfma (rtField w) (raField w) (rbField w))) (fun _ => rfl)).trans ?_
  simp only [rtField, raField, rbField, encRR_b, encRR_a, encRR_t]

theorem dfms (rt : RegNum) (ra : RegNum) (rb : RegNum) : Statement (.dfms rt ra rb) := by
  intro _
  refine (decodeWord_encRR _ _ _ _ (r := fun w => .ok (.dfms (rtField w) (raField w) (rbField w))) (fun _ => rfl)).trans ?_
  simp only [rtField, raField, rbField, encRR_b, encRR_a, encRR_t]

theorem dfnma (rt : RegNum) (ra : RegNum) (rb : RegNum) : Statement (.dfnma rt ra rb) := by
  intro _
  refine (decodeWord_encRR _ _ _ _ (r := fun w => .ok (.dfnma (rtField w) (raField w) (rbField w))) (fun _ => rfl)).trans ?_
  simp only [rtField, raField, rbField, encRR_b, encRR_a, encRR_t]

theorem dfnms (rt : RegNum) (ra : RegNum) (rb : RegNum) : Statement (.dfnms rt ra rb) := by
  intro _
  refine (decodeWord_encRR _ _ _ _ (r := fun w => .ok (.dfnms (rtField w) (raField w) (rbField w))) (fun _ => rfl)).trans ?_
  simp only [rtField, raField, rbField, encRR_b, encRR_a, encRR_t]

theorem dfs (rt : RegNum) (ra : RegNum) (rb : RegNum) : Statement (.dfs rt ra rb) := by
  intro _
  refine (decodeWord_encRR _ _ _ _ (r := fun w => .ok (.dfs (rtField w) (raField w) (rbField w))) (fun _ => rfl)).trans ?_
  simp only [rtField, raField, rbField, encRR_b, encRR_a, encRR_t]

theorem fa (rt : RegNum) (ra : RegNum) (rb : RegNum) : Statement (.fa rt ra rb) := by
  intro _
  refine (decodeWord_encRR _ _ _ _ (r := fun w => .ok (.fa (rtField w) (raField w) (rbField w))) (fun _ => rfl)).trans ?_
  simp only [rtField, raField, rbField, encRR_b, encRR_a, encRR_t]

theorem fceq (rt : RegNum) (ra : RegNum) (rb : RegNum) : Statement (.fceq rt ra rb) := by
  intro _
  refine (decodeWord_encRR _ _ _ _ (r := fun w => .ok (.fceq (rtField w) (raField w) (rbField w))) (fun _ => rfl)).trans ?_
  simp only [rtField, raField, rbField, encRR_b, encRR_a, encRR_t]

theorem fcgt (rt : RegNum) (ra : RegNum) (rb : RegNum) : Statement (.fcgt rt ra rb) := by
  intro _
  refine (decodeWord_encRR _ _ _ _ (r := fun w => .ok (.fcgt (rtField w) (raField w) (rbField w))) (fun _ => rfl)).trans ?_
  simp only [rtField, raField, rbField, encRR_b, encRR_a, encRR_t]

theorem fcmeq (rt : RegNum) (ra : RegNum) (rb : RegNum) : Statement (.fcmeq rt ra rb) := by
  intro _
  refine (decodeWord_encRR _ _ _ _ (r := fun w => .ok (.fcmeq (rtField w) (raField w) (rbField w))) (fun _ => rfl)).trans ?_
  simp only [rtField, raField, rbField, encRR_b, encRR_a, encRR_t]

theorem fcmgt (rt : RegNum) (ra : RegNum) (rb : RegNum) : Statement (.fcmgt rt ra rb) := by
  intro _
  refine (decodeWord_encRR _ _ _ _ (r := fun w => .ok (.fcmgt (rtField w) (raField w) (rbField w))) (fun _ => rfl)).trans ?_
  simp only [rtField, raField, rbField, encRR_b, encRR_a, encRR_t]

theorem fesd (rt : RegNum) (ra : RegNum) : Statement (.fesd rt ra) := by
  intro _
  refine (decodeWord_encRR _ _ _ _ (r := fun w => .ok (.fesd (rtField w) (raField w))) (fun _ => rfl)).trans ?_
  simp only [rtField, raField, encRR_a, encRR_t]

theorem fi (rt : RegNum) (ra : RegNum) (rb : RegNum) : Statement (.fi rt ra rb) := by
  intro _
  refine (decodeWord_encRR _ _ _ _ (r := fun w => .ok (.fi (rtField w) (raField w) (rbField w))) (fun _ => rfl)).trans ?_
  simp only [rtField, raField, rbField, encRR_b, encRR_a, encRR_t]

theorem fm (rt : RegNum) (ra : RegNum) (rb : RegNum) : Statement (.fm rt ra rb) := by
  intro _
  refine (decodeWord_encRR _ _ _ _ (r := fun w => .ok (.fm (rtField w) (raField w) (rbField w))) (fun _ => rfl)).trans ?_
  simp only [rtField, raField, rbField, encRR_b, encRR_a, encRR_t]

theorem fma (rt : RegNum) (ra : RegNum) (rb : RegNum) (rc : RegNum) : Statement (.fma rt ra rb rc) := by
  intro _
  refine (decodeWord_encRRR _ _ _ _ _ (r := fun w => .ok (.fma (rrrRtField w) (raField w) (rbField w) (rtField w))) (fun _ _ _ _ _ _ => rfl)).trans ?_
  simp only [rtField, raField, rbField, rrrRtField, encRRR_t, encRRR_b, encRRR_a, encRRR_c]

theorem fms (rt : RegNum) (ra : RegNum) (rb : RegNum) (rc : RegNum) : Statement (.fms rt ra rb rc) := by
  intro _
  refine (decodeWord_encRRR _ _ _ _ _ (r := fun w => .ok (.fms (rrrRtField w) (raField w) (rbField w) (rtField w))) (fun _ _ _ _ _ _ => rfl)).trans ?_
  simp only [rtField, raField, rbField, rrrRtField, encRRR_t, encRRR_b, encRRR_a, encRRR_c]

theorem fnms (rt : RegNum) (ra : RegNum) (rb : RegNum) (rc : RegNum) : Statement (.fnms rt ra rb rc) := by
  intro _
  refine (decodeWord_encRRR _ _ _ _ _ (r := fun w => .ok (.fnms (rrrRtField w) (raField w) (rbField w) (rtField w))) (fun _ _ _ _ _ _ => rfl)).trans ?_
  simp only [rtField, raField, rbField, rrrRtField, encRRR_t, encRRR_b, encRRR_a, encRRR_c]

theorem frds (rt : RegNum) (ra : RegNum) : Statement (.frds rt ra) := by
  intro _
  refine (decodeWord_encRR _ _ _ _ (r := fun w => .ok (.frds (rtField w) (raField w))) (fun _ => rfl)).trans ?_
  simp only [rtField, raField, encRR_a, encRR_t]

theorem frest (rt : RegNum) (ra : RegNum) : Statement (.frest rt ra) := by
  intro _
  refine (decodeWord_encRR _ _ _ _ (r := fun w => .ok (.frest (rtField w) (raField w))) (fun _ => rfl)).trans ?_
  simp only [rtField, raField, encRR_a, encRR_t]

theorem frsqest (rt : RegNum) (ra : RegNum) : Statement (.frsqest rt ra) := by
  intro _
  refine (decodeWord_encRR _ _ _ _ (r := fun w => .ok (.frsqest (rtField w) (raField w))) (fun _ => rfl)).trans ?_
  simp only [rtField, raField, encRR_a, encRR_t]

theorem fs (rt : RegNum) (ra : RegNum) (rb : RegNum) : Statement (.fs rt ra rb) := by
  intro _
  refine (decodeWord_encRR _ _ _ _ (r := fun w => .ok (.fs (rtField w) (raField w) (rbField w))) (fun _ => rfl)).trans ?_
  simp only [rtField, raField, rbField, encRR_b, encRR_a, encRR_t]

theorem fscrrd (rt : RegNum) : Statement (.fscrrd rt) := by
  intro _
  refine (decodeWord_encRR _ _ _ _ (r := fun w => .ok (.fscrrd (rtField w))) (fun _ => rfl)).trans ?_
  simp only [rtField, encRR_t]

theorem fscrwr (rc : RegNum) (ra : RegNum) : Statement (.fscrwr rc ra) := by
  intro _
  refine (decodeWord_encRR _ _ _ _ (r := fun w => .ok (.fscrwr (rtField w) (raField w))) (fun _ => rfl)).trans ?_
  simp only [rtField, raField, encRR_a, encRR_t]

theorem dsync : Statement (.dsync) := by
  intro _
  exact decodeWord_encRR _ _ _ _ (r := fun _ => .ok .dsync) (fun _ => rfl)

theorem lnop : Statement (.lnop) := by
  intro _
  exact decodeWord_encRR _ _ _ _ (r := fun _ => .ok .lnop) (fun _ => rfl)

theorem mfspr (rt : RegNum) (spr : SprNum) : Statement (.mfspr rt spr) := by
  intro _
  refine (decodeWord_encRR _ _ _ _ (r := fun w => .ok (.mfspr (rtField w) (raField w))) (fun _ => rfl)).trans ?_
  simp only [rtField, raField, encRR_a, encRR_t]

theorem mtspr (spr : SprNum) (ra : RegNum) : Statement (.mtspr spr ra) := by
  intro _
  refine (decodeWord_encRR _ _ _ _ (r := fun w => .ok (.mtspr (raField w) (rtField w))) (fun _ => rfl)).trans ?_
  simp only [rtField, raField, encRR_a, encRR_t]

theorem nop (rt : RegNum) : Statement (.nop rt) := by
  intro _
  refine (decodeWord_encRR _ _ _ _ (r := fun w => .ok (.nop (rtField w))) (fun _ => rfl)).trans ?_
  simp only [rtField, encRR_t]

theorem rchcnt (rt : RegNum) (ch : ChNum) : Statement (.rchcnt rt ch) := by
  intro _
  refine (decodeWord_encRR _ _ _ _ (r := fun w => .ok (.rchcnt (rtField w) (raField w))) (fun _ => rfl)).trans ?_
  simp only [rtField, raField, encRR_a, encRR_t]

theorem rdch (rt : RegNum) (ch : ChNum) : Statement (.rdch rt ch) := by
  intro _
  refine (decodeWord_encRR _ _ _ _ (r := fun w => .ok (.rdch (rtField w) (raField w))) (fun _ => rfl)).trans ?_
  simp only [rtField, raField, encRR_a, encRR_t]

theorem stop (u14 : BitVec 14) : Statement (.stop u14) := by
  intro _
  refine (decodeWord_encSTOP _ _ (r := fun w => .ok (.stop (signalField w))) (fun _ => rfl)).trans ?_
  simp only [signalField, encSTOP_signal]

theorem stopd (ra : RegNum) (rb : RegNum) (rc : RegNum) : Statement (.stopd ra rb rc) := by
  intro _
  refine (decodeWord_encRR _ _ _ _ (r := fun w => .ok (.stopd (raField w) (rbField w) (rtField w))) (fun _ => rfl)).trans ?_
  simp only [rtField, raField, rbField, encRR_b, encRR_a, encRR_t]

theorem sync : Statement (.sync) := by
  intro _
  refine (decodeWord_encRR _ _ _ _ (r := fun w => .ok (if bit11 w then .syncc else .sync)) (fun _ => rfl)).trans ?_
  simp only [bit11, encRR_bit20]
  rfl

theorem syncc : Statement (.syncc) := by
  intro _
  refine (decodeWord_encRR _ _ _ _ (r := fun w => .ok (if bit11 w then .syncc else .sync)) (fun _ => rfl)).trans ?_
  simp only [bit11, encRR_bit20]
  rfl

theorem wrch (ch : ChNum) (ra : RegNum) : Statement (.wrch ch ra) := by
  intro _
  refine (decodeWord_encRR _ _ _ _ (r := fun w => .ok (.wrch (raField w) (rtField w))) (fun _ => rfl)).trans ?_
  simp only [rtField, raField, encRR_a, encRR_t]

end RoundTrip

end Sys2Proof.Laws
end

