-- ==== Sys2Proof/Safety.lean ====
section
/-! DEFINITION. What claims speak of: the invariant of the machine, and the parts of the state a statement says unchanged. -/

namespace Sys2Proof.Machine

/-- A program counter is a multiple of 4 below the size of local storage (R37). -/
abbrev pcLegal (pc : Word) : Prop := pc.toNat % 4 = 0 ∧ pc.toNat < Config.lsSize

/-- Every listed byte lies in local storage (R70). -/
abbrev Memory.inStorage (m : Memory) : Prop := ∀ c ∈ m, c.1 < Config.lsSize

/-- The invariant of the machine. -/
structure State.Inv (s : State) : Prop where
  /-- The pc is legal (R37). -/
  pc : pcLegal s.pc
  /-- Local storage keeps its canonical form (R70). -/
  mem : s.mem.wf
  /-- Local storage has no byte outside its addresses (R70). -/
  bounds : s.mem.inStorage
  /-- The inbound mailbox holds no more than its depth (R46; DESIGN CHOICE, logs 17 and 33). -/
  inMbox : s.inMbox.length ≤ Config.inMboxDepth
  /-- The MFC queue holds no more than its depth (R46; DESIGN CHOICE, log 17). -/
  queue : s.mfc.queue.length ≤ Config.mfcQueueDepth
  /-- A transfer has moved no byte twice, and none that is not its own (R82; log 28). -/
  transfers : ∀ t ∈ s.mfc.transfers, t.moved.Nodup ∧ ∀ k ∈ t.moved, k < t.size
  /-- A pending store is one to an aligned quadword of local storage (R53 a, R73; DEDUCED, log 26). -/
  pending : ∀ a ∈ s.pendingStores, a % 16 = 0 ∧ a < Config.lsSize
  /-- A word stored to since the last `sync` is an aligned word of local storage (R80; DEDUCED, log 27). -/
  unsynced : ∀ a ∈ s.unsynced, a % 4 = 0 ∧ a < Config.lsSize

/-- Every byte of local storage reads the same in both states. -/
def sameBytes (s t : State) : Prop := ∀ a : Nat, t.mem.read a = s.mem.read a

/-- Every byte of local storage outside the quadword at `ea` reads the same in both states. -/
def sameBytesOutside (ea : Nat) (s t : State) : Prop :=
  ∀ a : Nat, a < ea ∨ ea + 16 ≤ a → t.mem.read a = s.mem.read a

/-- Every general register but those named reads the same in both states. -/
def sameRegsExcept (written : List RegNum) (s t : State) : Prop := ∀ r : RegNum, r ∉ written → t.reg r = s.reg r

/-- The pieces of state that are neither a general register, nor the pc, nor local storage and its store marks, nor IE, nor
FPSCR: SRR0, NPC, the stop code, the run state, the special purpose registers, the devices behind the channels, and the
model's own fields. -/
def sameSystem (s t : State) : Prop :=
  t.srr0 = s.srr0 ∧ t.npc = s.npc ∧ t.stopCode = s.stopCode ∧ t.run = s.run ∧ t.spr = s.spr ∧
  t.eventPending = s.eventPending ∧ t.eventMask = s.eventMask ∧ t.decrementer = s.decrementer ∧
  t.sigNotify1 = s.sigNotify1 ∧ t.sigNotify2 = s.sigNotify2 ∧ t.inMbox = s.inMbox ∧ t.outMbox = s.outMbox ∧
  t.outIntrMbox = s.outIntrMbox ∧ t.mfc = s.mfc ∧ t.ppuInterrupts = s.ppuInterrupts ∧ t.env = s.env ∧ t.draws = s.draws

/-- The store marks are the same in both states. -/
def sameStoreMarks (s t : State) : Prop := t.pendingStores = s.pendingStores ∧ t.unsynced = s.unsynced

/-- What an instruction that computes into one register leaves alone: every other register, IE, FPSCR, every byte of local
storage, and the rest of the system; the pc moves to the next instruction (R35, R38). -/
def onlyReg (rt : RegNum) (s t : State) : Prop :=
  t.pc = nextPc s.pc ∧ sameRegsExcept [rt] s t ∧ sameBytes s t ∧ t.ie = s.ie ∧ t.fpscr = s.fpscr ∧
  sameStoreMarks s t ∧ sameSystem s t

/-! Elements of a register, as the rules name them. -/

/-- x[r].w[k] (R14, R16). -/
abbrev State.word (s : State) (r : RegNum) (k : Nat) : Word := wordAt (s.reg r) k
/-- x[r].h[k] (R14, R16). -/
abbrev State.half (s : State) (r : RegNum) (k : Nat) : Half := halfAt (s.reg r) k
/-- x[r].b[k] (R14, R16). -/
abbrev State.byte (s : State) (r : RegNum) (k : Nat) : Byte := byteAt (s.reg r) k
/-- x[r].d[k] (R14, R16). -/
abbrev State.dword (s : State) (r : RegNum) (k : Nat) : DWord := dwordAt (s.reg r) k

/-! What it is for an instruction to complete with a result in one register and no other effect. -/

/-- The instruction answers a next state of which `P` holds. -/
def completes (i : Instr) (s : State) (P : State → Prop) : Prop := ∃ t, exec i s = .next t ∧ P t

/-- The instruction puts `f k` into each word element k of rt and changes nothing else but the pc. -/
def setsWords (i : Instr) (rt : RegNum) (s : State) (f : Nat → Word) : Prop :=
  completes i s fun t => (∀ k : Fin 4, t.word rt k = f k) ∧ onlyReg rt s t
/-- The instruction puts `f k` into each halfword element k of rt and changes nothing else but the pc. -/
def setsHalfs (i : Instr) (rt : RegNum) (s : State) (f : Nat → Half) : Prop :=
  completes i s fun t => (∀ k : Fin 8, t.half rt k = f k) ∧ onlyReg rt s t
/-- The instruction puts `f k` into each byte element k of rt and changes nothing else but the pc. -/
def setsBytes (i : Instr) (rt : RegNum) (s : State) (f : Nat → Byte) : Prop :=
  completes i s fun t => (∀ k : Fin 16, t.byte rt k = f k) ∧ onlyReg rt s t
/-- The instruction puts `f k` into each doubleword element k of rt and changes nothing else but the pc. -/
def setsDwords (i : Instr) (rt : RegNum) (s : State) (f : Nat → DWord) : Prop :=
  completes i s fun t => (∀ k : Fin 2, t.dword rt k = f k) ∧ onlyReg rt s t
/-- The instruction puts `f j` into each bit j of rt, bit 0 the least significant, and changes nothing else but the pc. -/
def setsBits (i : Instr) (rt : RegNum) (s : State) (f : Nat → Bool) : Prop :=
  completes i s fun t => (∀ j : Fin 128, (t.reg rt).getLsbD j = f j) ∧ onlyReg rt s t
/-- The instruction puts the 128-bit value of `n` into rt and changes nothing else but the pc. -/
def setsQuad (i : Instr) (rt : RegNum) (s : State) (n : Nat) : Prop :=
  completes i s fun t => t.reg rt = BitVec.ofNat 128 n ∧ onlyReg rt s t

/-- As `onlyReg`, but FPSCR takes the value `FPSCR_UPDATE` gives for the instruction, its operands and its result (R421). -/
def onlyRegAndFpscr (i : Instr) (rt : RegNum) (operands : List Quad) (s t : State) : Prop :=
  t.pc = nextPc s.pc ∧ sameRegsExcept [rt] s t ∧ sameBytes s t ∧ t.ie = s.ie ∧
  t.fpscr = Config.fpscrUpdate s.fpscr i operands (t.reg rt) ∧ sameStoreMarks s t ∧ sameSystem s t

/-- A floating-point instruction that puts `f k` into each word element k of rt. -/
def setsFpWords (i : Instr) (rt : RegNum) (operands : List Quad) (s : State) (f : Nat → Word) : Prop :=
  completes i s fun t => (∀ k : Fin 4, t.word rt k = f k) ∧ onlyRegAndFpscr i rt operands s t
/-- A floating-point instruction that puts `f k` into each doubleword element k of rt. -/
def setsFpDwords (i : Instr) (rt : RegNum) (operands : List Quad) (s : State) (f : Nat → DWord) : Prop :=
  completes i s fun t => (∀ k : Fin 2, t.dword rt k = f k) ∧ onlyRegAndFpscr i rt operands s t

/-- A jump that writes the link into rt: its word element 0 takes the address of the next instruction and its other words 0,
the pc and IE take the values named, and nothing else changes (R361). -/
def linksAndGoes (i : Instr) (rt : RegNum) (s : State) (pc : Word) (ie : Bool) : Prop :=
  completes i s fun t => t.pc = pc ∧ t.ie = ie ∧ (∀ k : Fin 4, t.word rt k = if k.val = 0 then nextPc s.pc else 0) ∧
    sameRegsExcept [rt] s t ∧ sameBytes s t ∧ t.fpscr = s.fpscr ∧ sameStoreMarks s t ∧ sameSystem s t

/-- A store of the 16 bytes of rc at `ea`: those bytes change, the quadword is pending and its four words are marked as not
yet synchronized; nothing else changes but the pc (R75, R53, R80). -/
def stores (i : Instr) (rc : RegNum) (s : State) (ea : Nat) : Prop :=
  completes i s fun t => (∀ k : Fin 16, t.mem.read (ea + k) = s.byte rc k) ∧ sameBytesOutside ea s t ∧
    (∀ a, a ∈ t.pendingStores ↔ a ∈ s.pendingStores ∨ a = ea) ∧
    (∀ a, a ∈ t.unsynced ↔ a ∈ s.unsynced ∨ a = ea ∨ a = ea + 4 ∨ a = ea + 8 ∨ a = ea + 12) ∧
    t.pc = nextPc s.pc ∧ sameRegsExcept [] s t ∧ t.ie = s.ie ∧ t.fpscr = s.fpscr ∧ sameSystem s t

end Sys2Proof.Machine

/-! Which instructions may do what, as the rules name them. -/

namespace Sys2Proof

/-- The forms that disable interrupts (R362, R506). -/
def Instr.disablesInterrupts : Instr → Bool
  | .bid _ | .bihnzd _ _ | .bihzd _ _ | .binzd _ _ | .bisld _ _ | .bisledd _ _ | .bizd _ _ | .iretd _ => true
  | _ => false

/-- The forms that enable interrupts (R362, R506). -/
def Instr.enablesInterrupts : Instr → Bool
  | .bie _ | .bihnze _ _ | .bihze _ _ | .binze _ _ | .bisle _ _ | .bislede _ _ | .bize _ _ | .irete _ => true
  | _ => false

/-- The stores (R72). -/
def Instr.isStore : Instr → Bool
  | .stqa _ _ | .stqd _ _ _ | .stqr _ _ | .stqx _ _ _ => true
  | _ => false

/-- What a store stores where: its register and the effective address it computes (R406 to R409). -/
def Instr.storesAt (s : Machine.State) : Instr → Option (RegNum × Nat)
  | .stqa rc s18 => some (rc, Machine.effAddr (Machine.s18Word s18))
  | .stqd rc s14 ra => some (rc, Machine.effAddr (s.word ra 0 + Machine.s14Word s14))
  | .stqr rc s18 => some (rc, Machine.effAddr (s.pc + Machine.s18Word s18))
  | .stqx rc ra rb => some (rc, Machine.effAddr (s.word ra 0 + s.word rb 0))
  | _ => none

/-- What a load loads from where: its target and the effective address it computes (R402 to R405). -/
def Instr.loadsAt (s : Machine.State) : Instr → Option (RegNum × Nat)
  | .lqa rt s18 => some (rt, Machine.effAddr (Machine.s18Word s18))
  | .lqd rt s14 ra => some (rt, Machine.effAddr (s.word ra 0 + Machine.s14Word s14))
  | .lqr rt s18 => some (rt, Machine.effAddr (s.pc + Machine.s18Word s18))
  | .lqx rt ra rb => some (rt, Machine.effAddr (s.word ra 0 + s.word rb 0))
  | _ => none

/-- The branches and the interrupt returns (R38). -/
def Instr.isBranch : Instr → Bool
  | .bi _ | .bid _ | .bie _ | .bihnz _ _ | .bihnzd _ _ | .bihnze _ _ | .bihz _ _ | .bihzd _ _ | .bihze _ _
  | .binz _ _ | .binzd _ _ | .binze _ _ | .bisl _ _ | .bisld _ _ | .bisle _ _ | .bisled _ _ | .bisledd _ _
  | .bislede _ _ | .biz _ _ | .bizd _ _ | .bize _ _ | .br _ | .bra _ | .brasl _ _ | .brhnz _ _ | .brhz _ _
  | .brnz _ _ | .brsl _ _ | .brz _ _ | .iret _ | .iretd _ | .irete _ => true
  | _ => false

/-- The stops and the conditional halts (R42). -/
def Instr.isStopOrHalt : Instr → Bool
  | .heq _ _ _ | .heqi _ _ _ | .hgt _ _ _ | .hgti _ _ _ | .hlgt _ _ _ | .hlgti _ _ _ | .stop _ | .stopd _ _ _ => true
  | _ => false

/-- The instructions that name a channel in one direction or a special purpose register (R460). -/
def Instr.mayBeRefused : Instr → Bool
  | .mfspr _ _ | .mtspr _ _ | .rdch _ _ | .wrch _ _ => true
  | _ => false

/-- The register an instruction names as its target and writes; a pseudo target is none (R34, R35). -/
def Instr.written : Instr → Option RegNum
  | .a rt _ _ | .absdb rt _ _ | .addx rt _ _ | .ah rt _ _ | .ahi rt _ _ | .ai rt _ _ | .and rt _ _
  | .andbi rt _ _ | .andc rt _ _ | .andhi rt _ _ | .andi rt _ _ | .avgb rt _ _ | .bg rt _ _ | .bgx rt _ _
  | .bisl rt _ | .bisld rt _ | .bisle rt _ | .bisled rt _ | .bisledd rt _ | .bislede rt _ | .brasl rt _
  | .brsl rt _ | .cbd rt _ _ | .cbx rt _ _ | .cdd rt _ _ | .cdx rt _ _ | .ceq rt _ _ | .ceqb rt _ _
  | .ceqbi rt _ _ | .ceqh rt _ _ | .ceqhi rt _ _ | .ceqi rt _ _ | .cflts rt _ _ | .cfltu rt _ _ | .cg rt _ _
  | .cgt rt _ _ | .cgtb rt _ _ | .cgtbi rt _ _ | .cgth rt _ _ | .cgthi rt _ _ | .cgti rt _ _ | .cgx rt _ _
  | .chd rt _ _ | .chx rt _ _ | .clgt rt _ _ | .clgtb rt _ _ | .clgtbi rt _ _ | .clgth rt _ _ | .clgthi rt _ _
  | .clgti rt _ _ | .clz rt _ | .cntb rt _ | .csflt rt _ _ | .cuflt rt _ _ | .cwd rt _ _ | .cwx rt _ _
  | .dfa rt _ _ | .dfm rt _ _ | .dfma rt _ _ | .dfms rt _ _ | .dfnma rt _ _ | .dfnms rt _ _ | .dfs rt _ _
  | .eqv rt _ _ | .fa rt _ _ | .fceq rt _ _ | .fcgt rt _ _ | .fcmeq rt _ _ | .fcmgt rt _ _ | .fesd rt _
  | .fi rt _ _ | .fm rt _ _ | .fma rt _ _ _ | .fms rt _ _ _ | .fnms rt _ _ _ | .frds rt _ | .frest rt _
  | .frsqest rt _ | .fs rt _ _ | .fscrrd rt | .fsm rt _ | .fsmb rt _ | .fsmbi rt _ | .fsmh rt _ | .gb rt _
  | .gbb rt _ | .gbh rt _ | .il rt _ | .ila rt _ | .ilh rt _ | .ilhu rt _ | .iohl rt _ | .lqa rt _ | .lqd rt _ _
  | .lqr rt _ | .lqx rt _ _ | .mfspr rt _ | .mpy rt _ _ | .mpya rt _ _ _ | .mpyh rt _ _ | .mpyhh rt _ _
  | .mpyhha rt _ _ | .mpyhhau rt _ _ | .mpyhhu rt _ _ | .mpyi rt _ _ | .mpys rt _ _ | .mpyu rt _ _
  | .mpyui rt _ _ | .nand rt _ _ | .nor rt _ _ | .or rt _ _ | .orbi rt _ _ | .orc rt _ _ | .orhi rt _ _
  | .ori rt _ _ | .orx rt _ | .rchcnt rt _ | .rdch rt _ | .rot rt _ _ | .roth rt _ _ | .rothi rt _ _
  | .rothm rt _ _ | .rothmi rt _ _ | .roti rt _ _ | .rotm rt _ _ | .rotma rt _ _ | .rotmah rt _ _
  | .rotmahi rt _ _ | .rotmai rt _ _ | .rotmi rt _ _ | .rotqbi rt _ _ | .rotqbii rt _ _ | .rotqby rt _ _
  | .rotqbybi rt _ _ | .rotqbyi rt _ _ | .rotqmbi rt _ _ | .rotqmbii rt _ _ | .rotqmby rt _ _ | .rotqmbybi rt _ _
  | .rotqmbyi rt _ _ | .selb rt _ _ _ | .sf rt _ _ | .sfh rt _ _ | .sfhi rt _ _ | .sfi rt _ _ | .sfx rt _ _
  | .shl rt _ _ | .shlh rt _ _ | .shlhi rt _ _ | .shli rt _ _ | .shlqbi rt _ _ | .shlqbii rt _ _ | .shlqby rt _ _
  | .shlqbybi rt _ _ | .shlqbyi rt _ _ | .shufb rt _ _ _ | .sumb rt _ _ | .xor rt _ _ | .xorbi rt _ _
  | .xorhi rt _ _ | .xori rt _ _ | .xsbh rt _ | .xshw rt _ | .xswd rt _ => some rt
  | .bi _ | .bid _ | .bie _ | .bihnz _ _ | .bihnzd _ _ | .bihnze _ _ | .bihz _ _ | .bihzd _ _ | .bihze _ _
  | .binz _ _ | .binzd _ _ | .binze _ _ | .biz _ _ | .bizd _ _ | .bize _ _ | .br _ | .bra _ | .brhnz _ _
  | .brhz _ _ | .brnz _ _ | .brz _ _ | .dsync | .fscrwr _ _ | .hbr _ _ | .hbra _ _ | .hbrp | .hbrr _ _
  | .heq _ _ _ | .heqi _ _ _ | .hgt _ _ _ | .hgti _ _ _ | .hlgt _ _ _ | .hlgti _ _ _ | .iret _ | .iretd _
  | .irete _ | .lnop | .mtspr _ _ | .nop _ | .stop _ | .stopd _ _ _ | .stqa _ _ | .stqd _ _ _ | .stqr _ _
  | .stqx _ _ _ | .sync | .syncc | .wrch _ _ => none

end Sys2Proof
end

