-- ==== Sys2Proof/Certificates/Slice0/Obligations.lean ====
section
/-! DEFINITION. The statements for the provers.  Register elements are written as the rules write them: `s.word r k` is
x[r].w[k] before the instruction, and so on; `setsWords i rt s f` says that `i` answers a next state in which word element k of
rt is `f k` and in which nothing else but the pc has changed. -/

section

open Sys2Proof Sys2Proof.Machine

/-! Integer arithmetic. -/

/-- Sums and differences of words: the sum or difference of the integers, modulo 2^32 (R203, R208, R227, R230). -/
def Obligations.AddSubtractWords : Prop :=
  ∀ (s : State) (rt ra rb : RegNum) (s10 : BitVec 10),
    setsWords (.a rt ra rb) rt s (fun k => BitVec.ofNat 32 ((s.word ra k).toNat + (s.word rb k).toNat)) ∧
    setsWords (.ai rt ra s10) rt s (fun k => BitVec.ofInt 32 ((s.word ra k).toNat + s10.toInt)) ∧
    setsWords (.sf rt ra rb) rt s (fun k => BitVec.ofInt 32 ((s.word rb k).toNat - (s.word ra k).toNat)) ∧
    setsWords (.sfi rt ra s10) rt s (fun k => BitVec.ofInt 32 (s10.toInt - (s.word ra k).toNat))

/-- Sums and differences of halfwords, modulo 2^16, and the extended generates: the carry out of the sum with the carry in, and
0 where the difference with the borrow in is negative (R206, R207, R211, R213, R228, R229; the spec derives R207, R211, R213
and R228 from their neighbours). -/
def Obligations.HalfwordsAndExtendedGenerates : Prop :=
  ∀ (s : State) (rt ra rb : RegNum) (s10 : BitVec 10),
    setsHalfs (.ah rt ra rb) rt s (fun k => BitVec.ofNat 16 ((s.half ra k).toNat + (s.half rb k).toNat)) ∧
    setsHalfs (.ahi rt ra s10) rt s (fun k => BitVec.ofInt 16 ((s.half ra k).toNat + s10.toInt)) ∧
    setsHalfs (.sfh rt ra rb) rt s (fun k => BitVec.ofInt 16 ((s.half rb k).toNat - (s.half ra k).toNat)) ∧
    setsHalfs (.sfhi rt ra s10) rt s (fun k => BitVec.ofInt 16 (s10.toInt - (s.half ra k).toNat)) ∧
    setsWords (.cgx rt ra rb) rt s (fun k =>
      BitVec.ofNat 32 (((s.word ra k).toNat + (s.word rb k).toNat + (s.word rt k).toNat % 2) / 2 ^ 32)) ∧
    setsWords (.bgx rt ra rb) rt s (fun k =>
      if ((s.word rb k).toNat : Int) - (s.word ra k).toNat - (if (s.word rt k).toNat % 2 = 0 then 1 else 0) < 0
      then 0 else 1)

/-- The extended sum and difference take the least significant bit of the old rt word; the carry and borrow generates store
the carry out, and 0 for a borrow (R205, R210, R212, R231). -/
def Obligations.CarryAndBorrow : Prop :=
  ∀ (s : State) (rt ra rb : RegNum),
    setsWords (.addx rt ra rb) rt s
      (fun k => BitVec.ofNat 32 ((s.word ra k).toNat + (s.word rb k).toNat + (s.word rt k).toNat % 2)) ∧
    setsWords (.sfx rt ra rb) rt s (fun k => BitVec.ofInt 32
      ((s.word rb k).toNat - (s.word ra k).toNat - if (s.word rt k).toNat % 2 = 0 then 1 else 0)) ∧
    setsWords (.cg rt ra rb) rt s (fun k => BitVec.ofNat 32 (((s.word ra k).toNat + (s.word rb k).toNat) / 2 ^ 32)) ∧
    setsWords (.bg rt ra rb) rt s (fun k => if (s.word rb k).toNat < (s.word ra k).toNat then 0 else 1)

/-- Multiplies of signed and unsigned halves of each word, and multiply-adds (R216, R217, R219 to R222, R225).  Halfword
element 2k is the upper half of word element k, 2k + 1 the lower. -/
def Obligations.Multiplies : Prop :=
  ∀ (s : State) (rt ra rb rc : RegNum),
    setsWords (.mpy rt ra rb) rt s (fun k =>
      BitVec.ofInt 32 ((s.half ra (2 * k + 1)).toInt * (s.half rb (2 * k + 1)).toInt)) ∧
    setsWords (.mpya rt ra rb rc) rt s (fun k =>
      BitVec.ofInt 32 ((s.half ra (2 * k + 1)).toInt * (s.half rb (2 * k + 1)).toInt + (s.word rc k).toNat)) ∧
    setsWords (.mpyhh rt ra rb) rt s (fun k => BitVec.ofInt 32 ((s.half ra (2 * k)).toInt * (s.half rb (2 * k)).toInt)) ∧
    setsWords (.mpyhha rt ra rb) rt s (fun k =>
      BitVec.ofInt 32 ((s.half ra (2 * k)).toInt * (s.half rb (2 * k)).toInt + (s.word rt k).toNat)) ∧
    setsWords (.mpyhhau rt ra rb) rt s (fun k =>
      BitVec.ofNat 32 ((s.half ra (2 * k)).toNat * (s.half rb (2 * k)).toNat + (s.word rt k).toNat)) ∧
    setsWords (.mpyhhu rt ra rb) rt s (fun k => BitVec.ofNat 32 ((s.half ra (2 * k)).toNat * (s.half rb (2 * k)).toNat)) ∧
    setsWords (.mpyu rt ra rb) rt s (fun k =>
      BitVec.ofNat 32 ((s.half ra (2 * k + 1)).toNat * (s.half rb (2 * k + 1)).toNat))

/-- `mpyh`, the immediate multiplies, and `mpys` (R218, R223, R224, R226).  What the source does not say is the model's choice,
taken from the spec's decisions: that `mpyi` is signed and that `mpyui` extends its immediate to 16 bits by the sign and then
reads it as unsigned (D29; PRESUMED, log 2); which halves `mpys` multiplies, a free parameter (D24; DESIGN CHOICE, log 11), and
that it multiplies them as signed and extends the 16 bits it stores by the sign (points (2) and (3) of R224; PRESUMED,
log 11). -/
def Obligations.OtherMultiplies : Prop :=
  ∀ (s : State) (rt ra rb : RegNum) (s10 : BitVec 10),
    setsWords (.mpyh rt ra rb) rt s (fun k =>
      BitVec.ofNat 32 ((s.half ra (2 * k)).toNat * (s.half rb (2 * k + 1)).toNat * 2 ^ 16)) ∧
    setsWords (.mpyi rt ra s10) rt s (fun k => BitVec.ofInt 32 ((s.half ra (2 * k + 1)).toInt * s10.toInt)) ∧
    setsWords (.mpyui rt ra s10) rt s (fun k =>
      BitVec.ofNat 32 ((s.half ra (2 * k + 1)).toNat * (BitVec.ofInt 16 s10.toInt).toNat)) ∧
    setsWords (.mpys rt ra rb) rt s (fun k =>
      match Config.mpysHalves with
      | .upper => BitVec.ofInt 32 ((s.half ra (2 * k)).toInt * (s.half rb (2 * k)).toInt / 2 ^ 16)
      | .lower => BitVec.ofInt 32 ((s.half ra (2 * k + 1)).toInt * (s.half rb (2 * k + 1)).toInt / 2 ^ 16))

/-- The byte operations and the counts; bytes are unsigned (R204, R209, R214, R215, R232; decisions D27, D28, log 2). -/
def Obligations.BytesAndCounts : Prop :=
  ∀ (s : State) (rt ra rb : RegNum),
    setsBytes (.absdb rt ra rb) rt s (fun k =>
      BitVec.ofNat 8 (((s.byte rb k).toNat : Int) - (s.byte ra k).toNat).natAbs) ∧
    setsBytes (.avgb rt ra rb) rt s (fun k => BitVec.ofNat 8 (((s.byte ra k).toNat + (s.byte rb k).toNat + 1) / 2)) ∧
    setsBytes (.cntb rt ra) rt s (fun k => BitVec.ofNat 8 ((List.range 8).countP fun j => (s.byte ra k).getLsbD j)) ∧
    setsWords (.clz rt ra) rt s (fun k =>
      if s.word ra k = 0 then 32 else BitVec.ofNat 32 (31 - Nat.log2 (s.word ra k).toNat)) ∧
    setsHalfs (.sumb rt ra rb) rt s (fun k =>
      BitVec.ofNat 16 (((List.range 4).map fun j =>
        (s.byte (if k % 2 = 0 then rb else ra) (4 * (k / 2) + j)).toNat).sum))

/-- The sign extensions keep the signed value of the low half of each element (R233 to R235). -/
def Obligations.SignExtensions : Prop :=
  ∀ (s : State) (rt ra : RegNum),
    setsHalfs (.xsbh rt ra) rt s (fun k => BitVec.ofInt 16 (s.byte ra (2 * k + 1)).toInt) ∧
    setsWords (.xshw rt ra) rt s (fun k => BitVec.ofInt 32 (s.half ra (2 * k + 1)).toInt) ∧
    setsDwords (.xswd rt ra) rt s (fun k => BitVec.ofInt 64 (s.word ra (2 * k + 1)).toInt)

/-! Logical. -/

/-- The register forms, bit by bit, and `orx` (R241, R243, R246 to R249, R251, R254 to R256). -/
def Obligations.LogicalRegisters : Prop :=
  ∀ (s : State) (rt ra rb rc : RegNum),
    setsBits (.and rt ra rb) rt s (fun j => (s.reg ra).getLsbD j && (s.reg rb).getLsbD j) ∧
    setsBits (.andc rt ra rb) rt s (fun j => (s.reg ra).getLsbD j && !(s.reg rb).getLsbD j) ∧
    setsBits (.eqv rt ra rb) rt s (fun j => (s.reg ra).getLsbD j == (s.reg rb).getLsbD j) ∧
    setsBits (.nand rt ra rb) rt s (fun j => !((s.reg ra).getLsbD j && (s.reg rb).getLsbD j)) ∧
    setsBits (.nor rt ra rb) rt s (fun j => !((s.reg ra).getLsbD j || (s.reg rb).getLsbD j)) ∧
    setsBits (.or rt ra rb) rt s (fun j => (s.reg ra).getLsbD j || (s.reg rb).getLsbD j) ∧
    setsBits (.orc rt ra rb) rt s (fun j => (s.reg ra).getLsbD j || !(s.reg rb).getLsbD j) ∧
    setsBits (.xor rt ra rb) rt s (fun j => (s.reg ra).getLsbD j != (s.reg rb).getLsbD j) ∧
    setsBits (.selb rt ra rb rc) rt s (fun j =>
      if (s.reg rc).getLsbD j then (s.reg rb).getLsbD j else (s.reg ra).getLsbD j) ∧
    setsWords (.orx rt ra) rt s (fun k =>
      if k = 0 then s.word ra 0 ||| s.word ra 1 ||| s.word ra 2 ||| s.word ra 3 else 0)

/-- The immediate forms: s10, cut to a byte or sign-extended to a halfword or a word, with every element (R242, R244, R245,
R250, R252, R253, R257 to R259). -/
def Obligations.LogicalImmediates : Prop :=
  ∀ (s : State) (rt ra : RegNum) (s10 : BitVec 10),
    setsBytes (.andbi rt ra s10) rt s (fun k => s.byte ra k &&& BitVec.ofNat 8 s10.toNat) ∧
    setsHalfs (.andhi rt ra s10) rt s (fun k => s.half ra k &&& BitVec.ofInt 16 s10.toInt) ∧
    setsWords (.andi rt ra s10) rt s (fun k => s.word ra k &&& BitVec.ofInt 32 s10.toInt) ∧
    setsBytes (.orbi rt ra s10) rt s (fun k => s.byte ra k ||| BitVec.ofNat 8 s10.toNat) ∧
    setsHalfs (.orhi rt ra s10) rt s (fun k => s.half ra k ||| BitVec.ofInt 16 s10.toInt) ∧
    setsWords (.ori rt ra s10) rt s (fun k => s.word ra k ||| BitVec.ofInt 32 s10.toInt) ∧
    setsBytes (.xorbi rt ra s10) rt s (fun k => s.byte ra k ^^^ BitVec.ofNat 8 s10.toNat) ∧
    setsHalfs (.xorhi rt ra s10) rt s (fun k => s.half ra k ^^^ BitVec.ofInt 16 s10.toInt) ∧
    setsWords (.xori rt ra s10) rt s (fun k => s.word ra k ^^^ BitVec.ofInt 32 s10.toInt)

/-! Constants, masks, shuffle. -/

/-- The immediate loads (R279 to R281) and the two halves of a word constant (R282, R283, decision D30, log 2). -/
def Obligations.ImmediateConstants : Prop :=
  ∀ (s : State) (rt : RegNum) (s16 u16 : BitVec 16) (u18 : BitVec 18),
    setsWords (.il rt s16) rt s (fun _ => BitVec.ofInt 32 s16.toInt) ∧
    setsWords (.ila rt u18) rt s (fun _ => BitVec.ofNat 32 u18.toNat) ∧
    setsHalfs (.ilh rt u16) rt s (fun _ => u16) ∧
    setsWords (.ilhu rt u16) rt s (fun _ => BitVec.ofNat 32 (u16.toNat * 2 ^ 16)) ∧
    setsWords (.iohl rt u16) rt s (fun k => s.word rt k ||| BitVec.ofNat 32 u16.toNat)

/-- The select masks spread mask bits, the leftmost to element 0; the gathers collect the low bits of the elements in the same
order (R261, R272 to R278; decision D31, log 2). -/
def Obligations.MasksAndGathers : Prop :=
  ∀ (s : State) (rt ra : RegNum) (u16 : BitVec 16),
    setsWords (.fsm rt ra) rt s (fun k => if (s.word ra 0).getLsbD (3 - k) then 0xFFFFFFFF else 0) ∧
    setsHalfs (.fsmh rt ra) rt s (fun k => if (s.word ra 0).getLsbD (7 - k) then 0xFFFF else 0) ∧
    setsBytes (.fsmb rt ra) rt s (fun k => if (s.word ra 0).getLsbD (15 - k) then 0xFF else 0) ∧
    setsBytes (.fsmbi rt u16) rt s (fun k => if u16.getLsbD (15 - k) then 0xFF else 0) ∧
    setsWords (.gb rt ra) rt s (fun k => if k = 0 then
      BitVec.ofNat 32 (((List.range 4).map fun j => (s.word ra j).toNat % 2 * 2 ^ (3 - j)).sum) else 0) ∧
    setsWords (.gbh rt ra) rt s (fun k => if k = 0 then
      BitVec.ofNat 32 (((List.range 8).map fun j => (s.half ra j).toNat % 2 * 2 ^ (7 - j)).sum) else 0) ∧
    setsWords (.gbb rt ra) rt s (fun k => if k = 0 then
      BitVec.ofNat 32 (((List.range 16).map fun j => (s.byte ra j).toNat % 2 * 2 ^ (15 - j)).sum) else 0)

/-- `shufb` selects, for each control byte, a byte of either source or one of three constants (R262, R284; decision D16); the
insertion controls: the bytes of the aligned element that the low four bits of the address select name the bytes of
the scalar, every other byte names itself in the second source (R263 to R271; decisions D8, D17, log 15). -/
def Obligations.ShuffleAndInsertionControls : Prop :=
  ∀ (s : State) (rt ra rb rc : RegNum) (u7 : BitVec 7),
    let d := ((s.word ra 0).toNat + u7.toNat) % 16
    let x := ((s.word ra 0).toNat + (s.word rb 0).toNat) % 16
    setsBytes (.cbd rt u7 ra) rt s (fun j => if j = d then 3 else BitVec.ofNat 8 (16 + j)) ∧
    setsBytes (.cbx rt ra rb) rt s (fun j => if j = x then 3 else BitVec.ofNat 8 (16 + j)) ∧
    setsBytes (.chd rt u7 ra) rt s (fun j => if j / 2 = d / 2 then BitVec.ofNat 8 (2 + j % 2) else BitVec.ofNat 8 (16 + j)) ∧
    setsBytes (.chx rt ra rb) rt s (fun j => if j / 2 = x / 2 then BitVec.ofNat 8 (2 + j % 2) else BitVec.ofNat 8 (16 + j)) ∧
    setsBytes (.cwd rt u7 ra) rt s (fun j => if j / 4 = d / 4 then BitVec.ofNat 8 (j % 4) else BitVec.ofNat 8 (16 + j)) ∧
    setsBytes (.cwx rt ra rb) rt s (fun j => if j / 4 = x / 4 then BitVec.ofNat 8 (j % 4) else BitVec.ofNat 8 (16 + j)) ∧
    setsBytes (.cdd rt u7 ra) rt s (fun j => if j / 8 = d / 8 then BitVec.ofNat 8 (j % 8) else BitVec.ofNat 8 (16 + j)) ∧
    setsBytes (.cdx rt ra rb) rt s (fun j => if j / 8 = x / 8 then BitVec.ofNat 8 (j % 8) else BitVec.ofNat 8 (16 + j)) ∧
    setsBytes (.shufb rt ra rb rc) rt s (fun j =>
      let c := (s.byte rc j).toNat
      if 0xE0 ≤ c then 0x80 else if 0xC0 ≤ c then 0xFF else if 0x80 ≤ c then 0x00
      else if c % 32 < 16 then s.byte ra (c % 16) else s.byte rb (c % 16))

/-! Shifts and rotates. -/

/-- Rotates of words and halfwords, and the left shift `shl` (R290, R292 to R294, R297, R314). -/
def Obligations.RotatesOfElements : Prop :=
  ∀ (s : State) (rt ra rb : RegNum) (s7 : BitVec 7),
    setsWords (.rot rt ra rb) rt s (fun k => let n := (s.word rb k).toNat % 32
      BitVec.ofNat 32 ((s.word ra k).toNat * 2 ^ n + (s.word ra k).toNat / 2 ^ (32 - n))) ∧
    setsHalfs (.roth rt ra rb) rt s (fun k => let n := (s.half rb k).toNat % 16
      BitVec.ofNat 16 ((s.half ra k).toNat * 2 ^ n + (s.half ra k).toNat / 2 ^ (16 - n))) ∧
    setsHalfs (.rothi rt ra s7) rt s (fun k => let n := s7.toNat % 16
      BitVec.ofNat 16 ((s.half ra k).toNat * 2 ^ n + (s.half ra k).toNat / 2 ^ (16 - n))) ∧
    setsWords (.roti rt ra s7) rt s (fun k => let n := s7.toNat % 32
      BitVec.ofNat 32 ((s.word ra k).toNat * 2 ^ n + (s.word ra k).toNat / 2 ^ (32 - n))) ∧
    setsWords (.shl rt ra rb) rt s (fun k => BitVec.ofNat 32 ((s.word ra k).toNat * 2 ^ ((s.word rb k).toNat % 64)))

/-- Left shifts: a distance of the element width or more leaves 0 (R315 to R317).  Of an immediate above its class
the low bits count (DEDUCED, log 31). -/
def Obligations.LeftShifts : Prop :=
  ∀ (s : State) (rt ra rb : RegNum) (u : BitVec 7),
    setsHalfs (.shlh rt ra rb) rt s (fun k => BitVec.ofNat 16 ((s.half ra k).toNat * 2 ^ ((s.half rb k).toNat % 32))) ∧
    setsHalfs (.shlhi rt ra u) rt s (fun k => BitVec.ofNat 16 ((s.half ra k).toNat * 2 ^ (u.toNat % 32))) ∧
    setsWords (.shli rt ra u) rt s (fun k => BitVec.ofNat 32 ((s.word ra k).toNat * 2 ^ (u.toNat % 64)))

/-- Right shifts by the two's complement of the count: the quotient of the unsigned value (R295, R296, R298, R303), or of the
signed value, rounded down (R299 to R302; decision D26).  Any 7-bit immediate is reduced as R109 and
R110 say. -/
def Obligations.RightShifts : Prop :=
  ∀ (s : State) (rt ra rb : RegNum) (i : BitVec 7),
    setsWords (.rotm rt ra rb) rt s (fun k =>
      BitVec.ofNat 32 ((s.word ra k).toNat / 2 ^ (-((s.word rb k).toNat : Int) % 64).toNat)) ∧
    setsHalfs (.rothm rt ra rb) rt s (fun k =>
      BitVec.ofNat 16 ((s.half ra k).toNat / 2 ^ (-((s.half rb k).toNat : Int) % 32).toNat)) ∧
    setsHalfs (.rothmi rt ra i) rt s (fun k => BitVec.ofNat 16 ((s.half ra k).toNat / 2 ^ (-i.toInt % 32).toNat)) ∧
    setsWords (.rotmi rt ra i) rt s (fun k => BitVec.ofNat 32 ((s.word ra k).toNat / 2 ^ (-i.toInt % 64).toNat)) ∧
    setsWords (.rotma rt ra rb) rt s (fun k =>
      BitVec.ofInt 32 ((s.word ra k).toInt / 2 ^ (-((s.word rb k).toNat : Int) % 64).toNat)) ∧
    setsHalfs (.rotmah rt ra rb) rt s (fun k =>
      BitVec.ofInt 16 ((s.half ra k).toInt / 2 ^ (-((s.half rb k).toNat : Int) % 32).toNat)) ∧
    setsHalfs (.rotmahi rt ra i) rt s (fun k => BitVec.ofInt 16 ((s.half ra k).toInt / 2 ^ (-i.toInt % 32).toNat)) ∧
    setsWords (.rotmai rt ra i) rt s (fun k => BitVec.ofInt 32 ((s.word ra k).toInt / 2 ^ (-i.toInt % 64).toNat))

/-- Quadword rotates by bits and by bytes (R304, R306 to R308). -/
def Obligations.QuadwordRotates : Prop :=
  ∀ (s : State) (rt ra rb : RegNum) (s7 : BitVec 7),
    setsQuad (.rotqbi rt ra rb) rt s (let n := (s.word rb 0).toNat % 8
      (s.reg ra).toNat * 2 ^ n + (s.reg ra).toNat / 2 ^ (128 - n)) ∧
    setsBytes (.rotqby rt ra rb) rt s (fun j => s.byte ra ((j + (s.word rb 0).toNat) % 16)) ∧
    setsBytes (.rotqbybi rt ra rb) rt s (fun j => s.byte ra ((j + (s.word rb 0).toNat / 8) % 16)) ∧
    setsBytes (.rotqbyi rt ra s7) rt s (fun j => s.byte ra ((j + s7.toNat) % 16))

/-- Quadword left shifts by bits and by bytes; 16 bytes or more leave 0 (R318 to R322).  Of an
immediate above its class the low bits count (DEDUCED, log 31). -/
def Obligations.QuadwordLeftShifts : Prop :=
  ∀ (s : State) (rt ra rb : RegNum) (u : BitVec 7),
    setsQuad (.shlqbi rt ra rb) rt s ((s.reg ra).toNat * 2 ^ ((s.word rb 0).toNat % 8)) ∧
    setsQuad (.shlqbii rt ra u) rt s ((s.reg ra).toNat * 2 ^ (u.toNat % 8)) ∧
    setsQuad (.shlqby rt ra rb) rt s ((s.reg ra).toNat * 2 ^ (8 * ((s.word rb 0).toNat % 32))) ∧
    setsQuad (.shlqbybi rt ra rb) rt s ((s.reg ra).toNat * 2 ^ (8 * ((s.word rb 0).toNat / 8 % 32))) ∧
    setsQuad (.shlqbyi rt ra u) rt s ((s.reg ra).toNat * 2 ^ (8 * (u.toNat % 32)))

/-- Quadword right shifts by the two's complement of the count, and the immediate rotate by bits (R305, R309 to R313).  The
field of `rotqmbybi` is the default of `ROTQMBYBI_FIELD` (decision D25, log 10);
any 7-bit immediate is reduced as R108, R109 and R117 say. -/
def Obligations.QuadwordRightShifts : Prop :=
  ∀ (s : State) (rt ra rb : RegNum) (i : BitVec 7),
    setsQuad (.rotqmbi rt ra rb) rt s ((s.reg ra).toNat / 2 ^ (-((s.word rb 0).toNat : Int) % 8).toNat) ∧
    setsQuad (.rotqmbii rt ra i) rt s ((s.reg ra).toNat / 2 ^ (-i.toInt % 8).toNat) ∧
    setsQuad (.rotqmby rt ra rb) rt s ((s.reg ra).toNat / 2 ^ (8 * (-((s.word rb 0).toNat : Int) % 32).toNat)) ∧
    setsQuad (.rotqmbybi rt ra rb) rt s ((s.reg ra).toNat / 2 ^ (8 * (-((s.word rb 0).toNat / 8 : Int) % 32).toNat)) ∧
    setsQuad (.rotqmbyi rt ra i) rt s ((s.reg ra).toNat / 2 ^ (8 * (-i.toInt % 32).toNat)) ∧
    setsQuad (.rotqbii rt ra i) rt s (let n := i.toNat % 8
      (s.reg ra).toNat * 2 ^ n + (s.reg ra).toNat / 2 ^ (128 - n))

/-! Compares and halts. -/

/-- Equality, element by element (R332 to R337). -/
def Obligations.CompareEqual : Prop :=
  ∀ (s : State) (rt ra rb : RegNum) (s10 : BitVec 10),
    setsWords (.ceq rt ra rb) rt s (fun k => if s.word ra k = s.word rb k then 0xFFFFFFFF else 0) ∧
    setsBytes (.ceqb rt ra rb) rt s (fun k => if s.byte ra k = s.byte rb k then 0xFF else 0) ∧
    setsBytes (.ceqbi rt ra s10) rt s (fun k => if s.byte ra k = BitVec.ofNat 8 s10.toNat then 0xFF else 0) ∧
    setsHalfs (.ceqh rt ra rb) rt s (fun k => if s.half ra k = s.half rb k then 0xFFFF else 0) ∧
    setsHalfs (.ceqhi rt ra s10) rt s (fun k => if (s.half ra k).toInt = s10.toInt then 0xFFFF else 0) ∧
    setsWords (.ceqi rt ra s10) rt s (fun k => if (s.word ra k).toInt = s10.toInt then 0xFFFFFFFF else 0)

/-- Greater than, as signed integers (R338 to R343) and as unsigned ones, an immediate sign-extended first (R344 to R349); the
spec derives the signedness from R352 and R354. -/
def Obligations.CompareGreater : Prop :=
  ∀ (s : State) (rt ra rb : RegNum) (s10 : BitVec 10),
    setsWords (.cgt rt ra rb) rt s (fun k => if (s.word rb k).toInt < (s.word ra k).toInt then 0xFFFFFFFF else 0) ∧
    setsBytes (.cgtb rt ra rb) rt s (fun k => if (s.byte rb k).toInt < (s.byte ra k).toInt then 0xFF else 0) ∧
    setsBytes (.cgtbi rt ra s10) rt s (fun k =>
      if (BitVec.ofNat 8 s10.toNat).toInt < (s.byte ra k).toInt then 0xFF else 0) ∧
    setsHalfs (.cgth rt ra rb) rt s (fun k => if (s.half rb k).toInt < (s.half ra k).toInt then 0xFFFF else 0) ∧
    setsHalfs (.cgthi rt ra s10) rt s (fun k => if s10.toInt < (s.half ra k).toInt then 0xFFFF else 0) ∧
    setsWords (.cgti rt ra s10) rt s (fun k => if s10.toInt < (s.word ra k).toInt then 0xFFFFFFFF else 0) ∧
    setsWords (.clgt rt ra rb) rt s (fun k => if (s.word rb k).toNat < (s.word ra k).toNat then 0xFFFFFFFF else 0) ∧
    setsBytes (.clgtb rt ra rb) rt s (fun k => if (s.byte rb k).toNat < (s.byte ra k).toNat then 0xFF else 0) ∧
    setsBytes (.clgtbi rt ra s10) rt s (fun k => if s10.toNat % 2 ^ 8 < (s.byte ra k).toNat then 0xFF else 0) ∧
    setsHalfs (.clgth rt ra rb) rt s (fun k => if (s.half rb k).toNat < (s.half ra k).toNat then 0xFFFF else 0) ∧
    setsHalfs (.clgthi rt ra s10) rt s (fun k =>
      if (BitVec.ofInt 16 s10.toInt).toNat < (s.half ra k).toNat then 0xFFFF else 0) ∧
    setsWords (.clgti rt ra s10) rt s (fun k =>
      if (BitVec.ofInt 32 s10.toInt).toNat < (s.word ra k).toNat then 0xFFFFFFFF else 0)

/-- The conditional halts: only the run state changes where the condition holds, only the pc where it does not; rt is never
written (R331, R350 to R355, R501; decision D10, log 24). -/
def Obligations.ConditionalHalts : Prop :=
  ∀ (s : State) (rt ra rb : RegNum) (s10 : BitVec 10),
    let halted : State := { s with run := .halted }
    let goesOn : State := { s with pc := nextPc s.pc }
    exec (.heq rt ra rb) s = .next (if s.word ra 0 = s.word rb 0 then halted else goesOn) ∧
    exec (.heqi rt ra s10) s = .next (if (s.word ra 0).toInt = s10.toInt then halted else goesOn) ∧
    exec (.hgt rt ra rb) s = .next (if (s.word rb 0).toInt < (s.word ra 0).toInt then halted else goesOn) ∧
    exec (.hgti rt ra s10) s = .next (if s10.toInt < (s.word ra 0).toInt then halted else goesOn) ∧
    exec (.hlgt rt ra rb) s = .next (if (s.word rb 0).toNat < (s.word ra 0).toNat then halted else goesOn) ∧
    exec (.hlgti rt ra s10) s =
      .next (if (BitVec.ofInt 32 s10.toInt).toNat < (s.word ra 0).toNat then halted else goesOn)

/-! Branches. -/

/-- The targets and the next address: reduced modulo the size of local storage, the low bits ignored (R37, R38, R360, R400;
decisions D5, D6, logs 2 and 3). -/
def Obligations.Addresses : Prop :=
  ∀ (t pc : Word) (s18 : BitVec 18) (s14 : BitVec 14),
    (target t).toNat = t.toNat % 2 ^ 18 - t.toNat % 4 ∧ effAddr t = t.toNat % 2 ^ 18 - t.toNat % 16 ∧
    (nextPc pc).toNat = (pc.toNat + 4) % 2 ^ 18 ∧
    (s18Word s18).toInt = s18.toInt - s18.toInt % 4 ∧ (s14Word s14).toInt = s14.toInt - s14.toInt % 16

/-- The unconditional branches, and the relative branches on a word or a halfword: pc and IE change, nothing else; a branch not
taken goes to the next instruction (R364 to R366, R385, R386, R388 to R390, R392; decision D6, log 2). -/
def Obligations.DirectAndIndirectBranches : Prop :=
  ∀ (s : State) (ra rc : RegNum) (s18 : BitVec 18),
    exec (.bi ra) s = .next { s with pc := target (s.word ra 0) } ∧
    exec (.bid ra) s = .next { s with pc := target (s.word ra 0), ie := false } ∧
    exec (.bie ra) s = .next { s with pc := target (s.word ra 0), ie := true } ∧
    exec (.br s18) s = .next { s with pc := target (s.pc + s18Word s18) } ∧
    exec (.bra s18) s = .next { s with pc := target (s18Word s18) } ∧
    exec (.brz rc s18) s =
      .next { s with pc := if s.word rc 0 = 0 then target (s.pc + s18Word s18) else nextPc s.pc } ∧
    exec (.brnz rc s18) s =
      .next { s with pc := if s.word rc 0 ≠ 0 then target (s.pc + s18Word s18) else nextPc s.pc } ∧
    exec (.brhz rc s18) s =
      .next { s with pc := if s.half rc 1 = 0 then target (s.pc + s18Word s18) else nextPc s.pc } ∧
    exec (.brhnz rc s18) s =
      .next { s with pc := if s.half rc 1 ≠ 0 then target (s.pc + s18Word s18) else nextPc s.pc }

/-- The branches that set the link: the target is read before rt is written (R361, R376 to R378, R387, R391).  `bisled` and its
variants write the link in any case; they are taken, and change IE, only where an enabled event is pending, and consume none
(R379 to R381, R507; decisions D6, D12, D35, log 2). -/
def Obligations.LinkBranches : Prop :=
  ∀ (s : State) (rt ra : RegNum) (s18 : BitVec 18),
    let event : Bool := s.eventPending &&& s.eventMask ≠ 0
    let onEvent := if event then target (s.word ra 0) else nextPc s.pc
    linksAndGoes (.bisl rt ra) rt s (target (s.word ra 0)) s.ie ∧
    linksAndGoes (.bisld rt ra) rt s (target (s.word ra 0)) false ∧
    linksAndGoes (.bisle rt ra) rt s (target (s.word ra 0)) true ∧
    linksAndGoes (.brasl rt s18) rt s (target (s18Word s18)) s.ie ∧
    linksAndGoes (.brsl rt s18) rt s (target (s.pc + s18Word s18)) s.ie ∧
    linksAndGoes (.bisled rt ra) rt s onEvent s.ie ∧
    linksAndGoes (.bisledd rt ra) rt s onEvent (if event then false else s.ie) ∧
    linksAndGoes (.bislede rt ra) rt s onEvent (if event then true else s.ie)

/-- The indirect branches on a word or a halfword: taken or not, IE changes only where the branch is taken (R367 to R375, R382
to R384; decision D6, log 2). -/
def Obligations.ConditionalIndirectBranches : Prop :=
  ∀ (s : State) (rc ra : RegNum),
    let taken (ie : Bool) : State := { s with pc := target (s.word ra 0), ie := ie }
    let goesOn : State := { s with pc := nextPc s.pc }
    exec (.biz rc ra) s = .next (if s.word rc 0 = 0 then taken s.ie else goesOn) ∧
    exec (.bizd rc ra) s = .next (if s.word rc 0 = 0 then taken false else goesOn) ∧
    exec (.bize rc ra) s = .next (if s.word rc 0 = 0 then taken true else goesOn) ∧
    exec (.binz rc ra) s = .next (if s.word rc 0 ≠ 0 then taken s.ie else goesOn) ∧
    exec (.binzd rc ra) s = .next (if s.word rc 0 ≠ 0 then taken false else goesOn) ∧
    exec (.binze rc ra) s = .next (if s.word rc 0 ≠ 0 then taken true else goesOn) ∧
    exec (.bihz rc ra) s = .next (if s.half rc 1 = 0 then taken s.ie else goesOn) ∧
    exec (.bihzd rc ra) s = .next (if s.half rc 1 = 0 then taken false else goesOn) ∧
    exec (.bihze rc ra) s = .next (if s.half rc 1 = 0 then taken true else goesOn) ∧
    exec (.bihnz rc ra) s = .next (if s.half rc 1 ≠ 0 then taken s.ie else goesOn) ∧
    exec (.bihnzd rc ra) s = .next (if s.half rc 1 ≠ 0 then taken false else goesOn) ∧
    exec (.bihnze rc ra) s = .next (if s.half rc 1 ≠ 0 then taken true else goesOn)

/-- Interrupt return: the pc goes to the target in SRR0, IE as the form says, nothing else changes, whatever ra holds (R397 to
R399, R511; decision D6, log 2). -/
def Obligations.InterruptReturn : Prop :=
  ∀ (s : State) (ra : RegNum),
    exec (.iret ra) s = .next { s with pc := target s.srr0 } ∧
    exec (.iretd ra) s = .next { s with pc := target s.srr0, ie := false } ∧
    exec (.irete ra) s = .next { s with pc := target s.srr0, ie := true }

/-- The hints and the no-operations only move to the next instruction (R363, R393 to R396, R462, R465; decision D18, log 32). -/
def Obligations.HintsAndNops : Prop :=
  ∀ (s : State) (s11 : BitVec 11) (s18 : BitVec 18) (r : RegNum),
    let goesOn : State := { s with pc := BitVec.ofNat 32 ((s.pc.toNat + 4) % Config.lsSize) }
    exec (.hbr s11 r) s = .next goesOn ∧ exec (.hbra s11 s18) s = .next goesOn ∧ exec .hbrp s = .next goesOn ∧
    exec (.hbrr s11 s18) s = .next goesOn ∧ exec (.nop r) s = .next goesOn ∧ exec .lnop s = .next goesOn

/-! Loads and stores. -/

/-- Loads: byte k of rt is the byte k places above the effective address; no byte of memory changes (R400 to R405; decisions
D2, D5, D8, log 2). -/
def Obligations.Loads : Prop :=
  ∀ (s : State) (rt ra rb : RegNum) (s18 : BitVec 18) (s14 : BitVec 14),
    setsBytes (.lqa rt s18) rt s (fun k => s.mem.read (effAddr (s18Word s18) + k)) ∧
    setsBytes (.lqd rt s14 ra) rt s (fun k => s.mem.read (effAddr (s.word ra 0 + s14Word s14) + k)) ∧
    setsBytes (.lqr rt s18) rt s (fun k => s.mem.read (effAddr (s.pc + s18Word s18) + k)) ∧
    setsBytes (.lqx rt ra rb) rt s (fun k => s.mem.read (effAddr (s.word ra 0 + s.word rb 0) + k))

/-- Stores: the 16 bytes of rc go to the quadword at the effective address, every other byte keeps its value (R400, R401, R406
to R409, R75; decisions D2, D5, D8, logs 2 and 27). -/
def Obligations.Stores : Prop :=
  ∀ (s : State) (rc ra rb : RegNum) (s18 : BitVec 18) (s14 : BitVec 14),
    stores (.stqa rc s18) rc s (effAddr (s18Word s18)) ∧
    stores (.stqd rc s14 ra) rc s (effAddr (s.word ra 0 + s14Word s14)) ∧
    stores (.stqr rc s18) rc s (effAddr (s.pc + s18Word s18)) ∧
    stores (.stqx rc ra rb) rc s (effAddr (s.word ra 0 + s.word rb 0))

/-- A load that reaches the quadword just stored gives the stored register back, with no synchronization between: each of the
four stores, then any of the four loads whose effective address in the next state is the one stored to (R78, R400; decision D19,
PRESUMED, log 2). -/
def Obligations.LoadAfterStore : Prop :=
  ∀ (s t : State) (st ld : Instr) (rc rt : RegNum) (ea : Nat),
    st.storesAt s = some (rc, ea) → exec st s = .next t → ld.loadsAt t = some (rt, ea) →
    completes ld t (fun u => u.reg rt = s.reg rc)

/-! Floating point: the values are those of the functions of `NUMERICS` (R420, free, log 12); FPSCR becomes what `FPSCR_UPDATE`
gives, by its default FPSCR as it was (R421; DESIGN CHOICE, log 13). -/

/-- Single precision: each word of the result is the named function of the words of the sources (R435, R441 to R445, R447 to
R449; decision D15, log 12); the compares give all ones or 0 (R436 to R439).  That `fcmeq` and `fcmgt` are the functions of
`fceq` and `fcgt` on the absolute values, the absolute value being free, is the model's choice (DEDUCED, log 12). -/
def Obligations.SinglePrecision : Prop :=
  ∀ (s : State) (rt ra rb rc : RegNum),
    let f := s.fpscr
    let two := [s.reg ra, s.reg rb]
    let three := [s.reg ra, s.reg rb, s.reg rc]
    let mag (r : RegNum) (k : Nat) := Config.fabs32 (s.word r k)
    setsFpWords (.fa rt ra rb) rt two s (fun k => Config.fadd32 f (s.word ra k) (s.word rb k)) ∧
    setsFpWords (.fs rt ra rb) rt two s (fun k => Config.fsub32 f (s.word ra k) (s.word rb k)) ∧
    setsFpWords (.fm rt ra rb) rt two s (fun k => Config.fmul32 f (s.word ra k) (s.word rb k)) ∧
    setsFpWords (.fi rt ra rb) rt two s (fun k => Config.fi32 f (s.word ra k) (s.word rb k)) ∧
    setsFpWords (.fma rt ra rb rc) rt three s (fun k => Config.fma32 f (s.word ra k) (s.word rb k) (s.word rc k)) ∧
    setsFpWords (.fms rt ra rb rc) rt three s (fun k => Config.fms32 f (s.word ra k) (s.word rb k) (s.word rc k)) ∧
    setsFpWords (.fnms rt ra rb rc) rt three s (fun k => Config.fnms32 f (s.word ra k) (s.word rb k) (s.word rc k)) ∧
    setsFpWords (.frest rt ra) rt [s.reg ra] s (fun k => Config.frest32 f (s.word ra k)) ∧
    setsFpWords (.frsqest rt ra) rt [s.reg ra] s (fun k => Config.frsqest32 f (s.word ra k)) ∧
    setsFpWords (.fceq rt ra rb) rt two s (fun k => if Config.fceq32 f (s.word ra k) (s.word rb k) then 0xFFFFFFFF else 0) ∧
    setsFpWords (.fcgt rt ra rb) rt two s (fun k => if Config.fcgt32 f (s.word ra k) (s.word rb k) then 0xFFFFFFFF else 0) ∧
    setsFpWords (.fcmeq rt ra rb) rt two s (fun k => if Config.fceq32 f (mag ra k) (mag rb k) then 0xFFFFFFFF else 0) ∧
    setsFpWords (.fcmgt rt ra rb) rt two s (fun k => if Config.fcgt32 f (mag ra k) (mag rb k) then 0xFFFFFFFF else 0)

/-- Conversions: the integers are clamped to the nearest bound (R424, R425), the sources of `csflt` and `cuflt` are signed and
unsigned (R426, R427; decision D15).  The model's choices: `cflts` and `cfltu` clamp one and the same free integer, and `csflt`
and `cuflt` are free functions of the integer and the scale (DEDUCED, log 12); a scale of 128 or more, which only a word can
name, is used as it stands (DESIGN CHOICE, log 30). -/
def Obligations.Conversions : Prop :=
  ∀ (s : State) (rt ra : RegNum) (scale : BitVec 8),
    let n (k : Nat) := Config.floatToInt s.fpscr (s.word ra k) scale
    setsFpWords (.cflts rt ra scale) rt [s.reg ra] s (fun k =>
      if n k < -2 ^ 31 then 0x80000000 else if 2 ^ 31 ≤ n k then 0x7FFFFFFF else BitVec.ofInt 32 (n k)) ∧
    setsFpWords (.cfltu rt ra scale) rt [s.reg ra] s (fun k =>
      if n k < 0 then 0 else if 2 ^ 32 ≤ n k then 0xFFFFFFFF else BitVec.ofInt 32 (n k)) ∧
    setsFpWords (.csflt rt ra scale) rt [s.reg ra] s (fun k => Config.csflt32 s.fpscr (s.word ra k).toInt scale) ∧
    setsFpWords (.cuflt rt ra scale) rt [s.reg ra] s (fun k => Config.cuflt32 s.fpscr (s.word ra k).toNat scale)

/-- Double precision, and the conversions between the precisions: `fesd` reads the even words, `frds` writes them and clears
the odd ones (R428 to R434, R440, R446; decision D15, log 12). -/
def Obligations.DoublePrecision : Prop :=
  ∀ (s : State) (rt ra rb : RegNum),
    let f := s.fpscr
    let two := [s.reg ra, s.reg rb]
    let three := [s.reg ra, s.reg rb, s.reg rt]
    setsFpDwords (.dfa rt ra rb) rt two s (fun k => Config.dfadd f (s.dword ra k) (s.dword rb k)) ∧
    setsFpDwords (.dfs rt ra rb) rt two s (fun k => Config.dfsub f (s.dword ra k) (s.dword rb k)) ∧
    setsFpDwords (.dfm rt ra rb) rt two s (fun k => Config.dfmul f (s.dword ra k) (s.dword rb k)) ∧
    setsFpDwords (.dfma rt ra rb) rt three s (fun k => Config.dfma f (s.dword ra k) (s.dword rb k) (s.dword rt k)) ∧
    setsFpDwords (.dfms rt ra rb) rt three s (fun k => Config.dfms f (s.dword ra k) (s.dword rb k) (s.dword rt k)) ∧
    setsFpDwords (.dfnms rt ra rb) rt three s (fun k => Config.dfnms f (s.dword ra k) (s.dword rb k) (s.dword rt k)) ∧
    setsFpDwords (.dfnma rt ra rb) rt three s (fun k => Config.dfnma f (s.dword ra k) (s.dword rb k) (s.dword rt k)) ∧
    setsFpDwords (.fesd rt ra) rt [s.reg ra] s (fun k => Config.fesd64 f (s.word ra (2 * k))) ∧
    setsFpWords (.frds rt ra) rt [s.reg ra] s (fun k => if k % 2 = 0 then Config.frds32 f (s.dword ra (k / 2)) else 0)

/-- FPSCR is read whole, and written whole under the default `FPSCR_WRITE_MASK`; the pseudo target is not written (R450, R451;
decision D36, log 14). -/
def Obligations.FpscrAccess : Prop :=
  ∀ (s : State) (rt rc ra : RegNum),
    completes (.fscrrd rt) s (fun t => t.reg rt = s.fpscr ∧ onlyReg rt s t) ∧
    exec (.fscrwr rc ra) s = .next { s with fpscr := s.reg ra, pc := nextPc s.pc }

/-! Control and channels. -/

/-- The synchronizations: all three complete the pending stores, and `sync` and `syncc` end the hazard of stored instruction
words; nothing else changes (R461, R470, R471, R79 to R81; decision D20, logs 25 and 26). -/
def Obligations.Synchronization : Prop :=
  ∀ s : State,
    exec .dsync s = .next { s with pc := nextPc s.pc, pendingStores := [] } ∧
    exec .sync s = .next { s with pc := nextPc s.pc, pendingStores := [], unsynced := [] } ∧
    exec .syncc s = .next { s with pc := nextPc s.pc, pendingStores := [], unsynced := [] }

/-- `stop` and `stopd`: NPC, the stop code and the run state change and the PPU is interrupted once; nothing else changes, the
pc stays, and the registers of `stopd` do not matter (R468, R469, R500; decisions D11, D37, logs 9 and 24). -/
def Obligations.Stops : Prop :=
  ∀ (s : State) (u14 : BitVec 14) (ra rb rc : RegNum),
    let npc := BitVec.ofNat 32 ((s.pc.toNat + 4) % Config.lsSize)
    exec (.stop u14) s = .next { s with
      npc := npc, stopCode := u14, run := .stopped u14, ppuInterrupts := s.ppuInterrupts + 1 } ∧
    exec (.stopd ra rb rc) s = .next { s with
      npc := npc, stopCode := 0x3FFF, run := .stopped 0x3FFF, ppuInterrupts := s.ppuInterrupts + 1 }

/-- Special purpose registers.  One that exists: `mfspr` reads it into word element 0 and clears the other words; `mtspr` writes
word element 0 of ra to it and to no other; nothing else changes.  One that does not exist is refused by name (R460 b, R463,
R464; decisions D9, D21, log 16). -/
def Obligations.SpecialRegisters : Prop :=
  ∀ (s : State) (r : RegNum) (n : SprNum) (w : Word),
    (s.spr.lookup n = some w →
      setsWords (.mfspr r n) r s (fun k => if k = 0 then w else 0) ∧
      completes (.mtspr n r) s fun t => t.spr.lookup n = some (s.word r 0) ∧
        (∀ m, m ≠ n → t.spr.lookup m = s.spr.lookup m) ∧ t = { s with spr := t.spr, pc := nextPc s.pc }) ∧
    (s.spr.lookup n = none →
      exec (.mfspr r n) s = .refused (.sprAbsent n) ∧ exec (.mtspr n r) s = .refused (.sprAbsent n))

/-- `rchcnt` always completes and puts the count into word element 0 of rt, 0 into the others (R43, R466).  Of a blocking
channel the count is how many reads or writes it can take now, and only rt changes: one per status, signal or pending enabled
event that waits (0, 3, 4, 24, 25, 27), one per request or outbound mailbox that is free (9, 23, 28, 30), the entries of the
inbound mailbox (29) and the free places of the MFC queue (21).  Of any other channel it is a free value, and the model's draw
counter advances by one.  Which channels block and how deep they are is the default of `CHANNEL_TABLE` (R46; decision D20,
DESIGN CHOICE, log 17), that the counts are these the model's choice (DESIGN CHOICE, logs 18 and 34). -/
def Obligations.ChannelCounts : Prop :=
  ∀ (s : State) (rt : RegNum) (ch : ChNum),
    let blocking : Bool := ch.toNat ∈ [0, 3, 4, 9, 21, 23, 24, 25, 27, 28, 29, 30]
    let count := if blocking then BitVec.ofNat 32 (s.blockingCount ch) else Config.channelCount ch s.draws
    let counts (c : ChNum) (n : Nat) : Prop := setsWords (.rchcnt rt c) rt s fun k => if k = 0 then BitVec.ofNat 32 n else 0
    completes (.rchcnt rt ch) s (fun t => (∀ k : Fin 4, t.word rt k = if k.val = 0 then count else 0) ∧
      onlyReg rt (if blocking then s else { s with draws := s.draws + 1 }) t) ∧
    counts 0 (if s.eventPending &&& s.eventMask = 0 then 0 else 1) ∧
    counts 3 (if s.sigNotify1 = none then 0 else 1) ∧ counts 4 (if s.sigNotify2 = none then 0 else 1) ∧
    counts 9 (if s.mfc.msSyncReq = none then 1 else 0) ∧ counts 21 (16 - s.mfc.queue.length) ∧
    counts 23 (if s.mfc.tagUpdate = none then 1 else 0) ∧ counts 24 (if s.mfc.tagStat = none then 0 else 1) ∧
    counts 25 (if s.mfc.listStall = none then 0 else 1) ∧ counts 27 (if s.mfc.atomicStat = none then 0 else 1) ∧
    counts 28 (if s.outMbox = none then 1 else 0) ∧ counts 29 s.inMbox.length ∧
    counts 30 (if s.outIntrMbox = none then 1 else 0)

/-- Reads that consume: a signal, the oldest entry of the inbound mailbox, and each status of the MFC go to word element 0 of
rt and are gone afterwards; nothing else changes (R44, R50, R52, R467; decisions D9, D20, log 17).  The tag status is masked,
and shows no tag with an unfinished transfer; the transfers of the tags it shows are over after the read (R82; decision D19,
log 28). -/
def Obligations.ConsumingReads : Prop :=
  ∀ (s : State) (rt : RegNum) (w : Word) (more : List Word),
    let inRt (i : Instr) (before after : State) (v : Word) : Prop :=
      completes i before fun t => (∀ k : Fin 4, t.word rt k = if k.val = 0 then v else 0) ∧ onlyReg rt after t
    let shown := w &&& s.mfc.tagMask &&& ~~~(unfinishedTags s.mfc.transfers)
    inRt (.rdch rt 3) { s with sigNotify1 := some w } { s with sigNotify1 := none } w ∧
    inRt (.rdch rt 4) { s with sigNotify2 := some w } { s with sigNotify2 := none } w ∧
    inRt (.rdch rt 29) { s with inMbox := w :: more } { s with inMbox := more } w ∧
    inRt (.rdch rt 24) { s with mfc := { s.mfc with tagStat := some w } }
      { s with mfc := { s.mfc with
        tagStat := none, transfers := s.mfc.transfers.filter fun x => x.tagWord &&& shown = 0 } } shown ∧
    (∀ x ∈ s.mfc.transfers, x.tagWord &&& shown = 0 ∨ x.unfinished = false) ∧
    inRt (.rdch rt 25) { s with mfc := { s.mfc with listStall := some w } }
      { s with mfc := { s.mfc with listStall := none } } w ∧
    inRt (.rdch rt 27) { s with mfc := { s.mfc with atomicStat := some w } }
      { s with mfc := { s.mfc with atomicStat := none } } w

/-- Reads that consume nothing: the event mask, the tag mask and SRR0 as they stand; the execution status with IE as its least
significant bit and the decrementer, both otherwise free; the event status where an enabled event is pending, which clears none
(R41, R48, R49, R51, R52, R467, R507; decisions D9, D12, logs 17 and 19). -/
def Obligations.PlainReads : Prop :=
  ∀ (s : State) (rt : RegNum),
    setsWords (.rdch rt 11) rt s (fun k => if k = 0 then s.eventMask else 0) ∧
    setsWords (.rdch rt 12) rt s (fun k => if k = 0 then s.mfc.tagMask else 0) ∧
    setsWords (.rdch rt 15) rt s (fun k => if k = 0 then s.srr0 else 0) ∧
    completes (.rdch rt 13) s (fun t => (t.word rt 0).getLsbD 0 = s.ie ∧ t.word rt 1 = 0 ∧ t.word rt 2 = 0 ∧
      t.word rt 3 = 0 ∧ onlyReg rt { s with draws := s.draws + 1 } t) ∧
    completes (.rdch rt 8) s (fun t => t.word rt 1 = 0 ∧ t.word rt 2 = 0 ∧ t.word rt 3 = 0 ∧
      onlyReg rt { s with draws := s.draws + 1 } t) ∧
    (s.eventPending &&& s.eventMask ≠ 0 →
      setsWords (.rdch rt 0) rt s (fun k => if k = 0 then s.eventPending &&& s.eventMask else 0))

/-- Channel writes that never wait: each puts word element 0 of ra into the state its device holds, an acknowledgment clears
the pending events it names, and nothing else changes (R45, R48, R49, R52, R472, R507; decisions D9, D12, logs 17 and 25). -/
def Obligations.PlainWrites : Prop :=
  ∀ (s : State) (ra : RegNum),
    let v := s.word ra 0
    let n : State := { s with pc := nextPc s.pc }
    exec (.wrch 1 ra) s = .next { n with eventMask := v } ∧
    exec (.wrch 2 ra) s = .next { n with eventPending := s.eventPending &&& ~~~v } ∧
    exec (.wrch 7 ra) s = .next { n with decrementer := v } ∧
    exec (.wrch 14 ra) s = .next { n with srr0 := v } ∧
    exec (.wrch 16 ra) s = .next { n with mfc := { s.mfc with lsa := v } } ∧
    exec (.wrch 17 ra) s = .next { n with mfc := { s.mfc with eah := v } } ∧
    exec (.wrch 18 ra) s = .next { n with mfc := { s.mfc with eal := v } } ∧
    exec (.wrch 19 ra) s = .next { n with mfc := { s.mfc with size := v } } ∧
    exec (.wrch 20 ra) s = .next { n with mfc := { s.mfc with tagId := v } } ∧
    exec (.wrch 22 ra) s = .next { n with mfc := { s.mfc with tagMask := v } } ∧
    exec (.wrch 26 ra) s = .next { n with mfc := { s.mfc with listStallAck := v } }

/-- Channel writes that can wait: a mailbox or a request that is free takes the word, the MFC queue takes a command with the
five parameters as they stand and opens its transfer, with no byte moved yet, and a full one makes the write wait with no state
changed (R18, R50, R52, R82, R460, R472; decisions D9, D19, D20, logs 17, 23 and 28). -/
def Obligations.BlockingWrites : Prop :=
  ∀ (s : State) (ra : RegNum),
    let v := s.word ra 0
    let n : State := { s with pc := nextPc s.pc }
    let command : MfcCommand := ⟨v, s.mfc.lsa, s.mfc.eah, s.mfc.eal, s.mfc.size, s.mfc.tagId⟩
    exec (.wrch 28 ra) s = .next (if s.outMbox = none then { n with outMbox := some v } else s) ∧
    exec (.wrch 30 ra) s = .next (if s.outIntrMbox = none then
      { n with outIntrMbox := some v, ppuInterrupts := s.ppuInterrupts + 1 } else s) ∧
    exec (.wrch 9 ra) s = .next (if s.mfc.msSyncReq = none then { n with mfc := { s.mfc with msSyncReq := some v } } else s) ∧
    exec (.wrch 23 ra) s = .next (if s.mfc.tagUpdate = none then
      { n with mfc := { s.mfc with tagUpdate := some v } } else s) ∧
    exec (.wrch 21 ra) s = .next (if s.mfc.queue.length < 16 then
      { n with mfc := { s.mfc with
        queue := s.mfc.queue ++ [command], transfers := s.mfc.transfers ++ [⟨command, []⟩] } } else s)

/-- A channel instruction that names a blocking channel in its right direction waits, with no state changed, exactly where the
channel's count is 0 (R18, R460 c, R467, R472; decision D20, log 23). -/
def Obligations.ChannelStalls : Prop :=
  ∀ (s : State) (r : RegNum) (ch : ChNum), channelBlocking ch = true →
    (channelReadable ch = true → (exec (.rdch r ch) s = .next s ↔ s.blockingCount ch = 0)) ∧
    (channelWritable ch = true → (exec (.wrch ch r) s = .next s ↔ s.blockingCount ch = 0))

/-- The wrong direction, and a channel with no function (5, 6, 10, 31 to 127), are refused by name (R46, R460 a; decision D20). -/
def Obligations.RefusedChannels : Prop :=
  ∀ (s : State) (r : RegNum) (ch : ChNum),
    (ch.toNat ∈ [1, 2, 5, 6, 7, 9, 10, 14, 16, 17, 18, 19, 20, 21, 22, 23, 26, 28] ∨ 30 ≤ ch.toNat ↔
      exec (.rdch r ch) s = .refused (.channelNotReadable ch)) ∧
    (ch.toNat ∈ [0, 3, 4, 5, 6, 8, 10, 11, 12, 13, 15, 24, 25, 27, 29] ∨ 31 ≤ ch.toNat ↔
      exec (.wrch ch r) s = .refused (.channelNotWritable ch))

/-! The whole machine. -/

/-- A step runs the decoded instruction: in a running state with nothing due from outside, where the four bytes at the pc are
not stale and decode to an instruction, the step is `exec` of it at that state; a quiet action is consumed first (R38, R76,
log 21). -/
def Obligations.StepRunsDecoded : Prop :=
  ∀ (s : State) (i : Instr) (rest : List Byte), s.run = .running → s.staleAtPc = false → s.env = [] →
    decode s.fetchBytes = .ok (i, rest) →
    step s = exec i s ∧ ∀ later, step { s with env := .quiet :: later } = exec i { s with env := later }

/-- Some words of 95_test_vectors.md decode to the instructions they stand for (annex; log 1). -/
def Obligations.DecodeKnownWords : Prop :=
  decodeWord 0x163FC203 = .ok (.andbi 3 4 255) ∧ decodeWord 0x3E920203 = .ok (.cbd 3 72 4) ∧
  decodeWord 0x762B0203 = .ok (.cflts 3 4 1) ∧ decodeWord 0x76A68203 = .ok (.csflt 3 4 1) ∧
  decodeWord 0x327FFF80 = .ok (.br (-4)) ∧ decodeWord 0x12000404 = .ok (.hbrr 16 32) ∧
  decodeWord 0x35800204 = .ok (.hbr 16 4) ∧ decodeWord 0x7B014200 = .ok (.heq 0 4 5) ∧
  decodeWord 0x28014206 = .ok (.stopd 4 5 6) ∧ decodeWord 0x00500000 = .ok .syncc ∧
  decodeWord 0x34FFC203 = .ok (.lqd 3 (-16) 4) ∧ decodeWord 0x25640206 = .ok (.bihnze 6 4)

/-- Decoding undoes encoding, for every well-formed instruction with every operand, at the level of bytes, and leaves the bytes
that follow (R71, R100, R140 to R142; annex, log 1). -/
def Obligations.DecodeEncode : Prop :=
  ∀ (i : Instr) (rest : List Byte), i.wf = true → decode (encodeBytes i ++ rest) = .ok (i, rest)

/-- The invariant is kept by every step: instructions, interrupts and what outside agents do.  It says: the pc is a multiple of
4 in local storage (R37), local storage is in its one form and holds no byte outside its addresses (R70), no transfer moves a
byte twice (R82; log 28); and, of the model's own making, that the mailbox and the MFC queue hold no more than the depth of the
default `CHANNEL_TABLE` (DESIGN CHOICE, logs 17 and 33), that a pending store is marked by the address of its quadword and a
word not yet synchronized by its own (DEDUCED, logs 26 and 27). -/
def Obligations.StepKeepsInvariant : Prop :=
  ∀ s t : State, s.Inv → step s = .next t → t.Inv

/-- The invariant holds after reset (logs 4 to 6). -/
def Obligations.ResetHasInvariant : Prop := State.reset.Inv

/-- The state after reset: running, interrupts disabled, no store pending and no word stale, as the launch state says (R54,
R560; IE by decision D13); the entry address, the zero registers and the empty storage and devices are the model's choice
(DESIGN CHOICE, logs 4 to 6 and 16). -/
def Obligations.ResetState : Prop :=
  State.reset.run = .running ∧ State.reset.ie = false ∧ State.reset.pendingStores = [] ∧ State.reset.unsynced = [] ∧
  State.reset.pc = 0 ∧ (∀ r : RegNum, State.reset.reg r = 0) ∧ (∀ a : Nat, State.reset.mem.read a = 0) ∧
  State.reset.fpscr = 0 ∧ State.reset.srr0 = 0 ∧ State.reset.eventPending = 0 ∧ State.reset.eventMask = 0 ∧
  State.reset.inMbox = [] ∧ State.reset.mfc.queue = [] ∧ State.reset.spr = []

/-- The interrupt: where it is due and the condition holds, SRR0 takes the pc, IE is cleared and the pc goes to `INT_VECTOR`;
nothing else is saved or changed; where the condition does not hold nothing happens (R508 to R510; decision D12, logs 8
and 22). -/
def Obligations.InterruptEntry : Prop :=
  ∀ (s : State) (later : List EnvAction),
    step { s with env := .interrupt :: later } = .next
      (if s.run = .running ∧ s.ie = true ∧ s.eventPending &&& s.eventMask ≠ 0
       then { s with env := later, srr0 := s.pc, ie := false, pc := 0 } else { s with env := later })

/-- A word that is no instruction, a word with D and E both set, and a word stored to since the last `sync` stop the machine by
name (R80, R128, R142, R502; decisions D32, D40, logs 27 and 29). -/
def Obligations.FetchStops : Prop :=
  ∀ (s : State) (w : Word), s.run = .running → s.env = [] →
    (s.staleAtPc = true → step s = .fault (.staleFetch s.pc)) ∧
    (s.staleAtPc = false → decode s.fetchBytes = .error (.illegalWord w) → step s = .fault (.illegalInstruction w)) ∧
    (s.staleAtPc = false → decode s.fetchBytes = .error (.bothInterruptBits w) → step s = .refused (.bothInterruptBits w))

/-- A stopped or halted SPU executes nothing: whatever outside agents do, its registers, pc, IE, FPSCR, SRR0, NPC and run state
stay (R500, R501, R508, R519; log 24). -/
def Obligations.StoppedStays : Prop :=
  ∀ s t : State, s.run ≠ .running → step s = .next t →
    t.run = s.run ∧ t.gpr = s.gpr ∧ t.pc = s.pc ∧ t.ie = s.ie ∧ t.fpscr = s.fpscr ∧ t.srr0 = s.srr0 ∧ t.npc = s.npc ∧
    t.stopCode = s.stopCode ∧ t.spr = s.spr

/-- IE changes only under a `d` form, which disables, or an `e` form, which enables: sixteen instructions (R56, R362, R506). -/
def Obligations.OnlyTheseChangeIe : Prop :=
  ∀ (i : Instr) (s t : State), exec i s = .next t → t.ie ≠ s.ie →
    t.ie = false ∧ i.disablesInterrupts = true ∨ t.ie = true ∧ i.enablesInterrupts = true

/-- No instruction raises a fault: each answers a next state, or is one of the four that a channel or a special purpose register
that is not there makes the model refuse (R460, R502). -/
def Obligations.NoInstructionFaults : Prop :=
  ∀ (i : Instr) (s : State),
    (∃ t, exec i s = .next t) ∨ (∃ e, exec i s = .refused e) ∧ i.mayBeRefused = true

/-- Only the four stores change a byte of memory, or mark a quadword as pending or a word as stale (R72, R86). -/
def Obligations.OnlyStoresChangeMemory : Prop :=
  ∀ (i : Instr) (s t : State), exec i s = .next t → i.isStore = false →
    t.mem = s.mem ∧ (∀ a ∈ t.pendingStores, a ∈ s.pendingStores) ∧ (∀ a ∈ t.unsynced, a ∈ s.unsynced)

/-- A register changes only where the instruction names it as its target; pseudo targets are never written (R30, R34, R35,
R568). -/
def Obligations.OnlyTheTargetIsWritten : Prop :=
  ∀ (i : Instr) (s t : State) (r : RegNum), exec i s = .next t → i.written ≠ some r → t.reg r = s.reg r

/-- Only the branches and the interrupt returns move the pc elsewhere than to the next instruction; an instruction that stops,
halts or waits leaves it (R38, R460, R500, R501). -/
def Obligations.OnlyBranchesMovePc : Prop :=
  ∀ (i : Instr) (s t : State), exec i s = .next t → i.isBranch = false →
    t.pc = nextPc s.pc ∨ (t.pc = s.pc ∧ (t.run ≠ .running ∨ t = s))

/-- SRR0 is written only through channel 14, FPSCR only by `fscrwr`, and the run state only by the stops and the halts (R40 to
R42, R500, R501).  That no other floating-point instruction changes FPSCR is the default of `FPSCR_UPDATE` (R421; decision D36,
DESIGN CHOICE, log 13). -/
def Obligations.OnlyTheseChangeSystemRegisters : Prop :=
  ∀ (i : Instr) (s t : State), exec i s = .next t →
    (t.srr0 = s.srr0 ∨ ∃ ra, i = .wrch 14 ra ∧ t.srr0 = s.word ra 0) ∧
    (t.fpscr = s.fpscr ∨ ∃ rc ra, i = .fscrwr rc ra ∧ t.fpscr = s.reg ra) ∧ (t.run = s.run ∨ i.isStopOrHalt = true)

/-- A pending event stays pending until it is acknowledged: a step clears an event bit only by executing a write to channel 2
of a word with that bit set (R507; decision D12, log 17). -/
def Obligations.EventsStayUntilAcknowledged : Prop :=
  ∀ (s t : State) (j : Nat), step s = .next t → s.eventPending.getLsbD j = true → t.eventPending.getLsbD j = false →
    ∃ ra, s.fetch = .next (.wrch 2 ra) ∧ (s.word ra 0).getLsbD j = true

end
end

