-- ==== Sys2Proof/Laws/Elements.lean ====
section
/-! SUPPORT. What the elements of a value are (R14, R201): an element of a value built from elements, the elements of each
element-wise operation, and equality of values by their elements. -/

namespace Sys2Proof.Laws

open Sys2Proof.Machine

theorem extract_append_low {n m : Nat} (a : BitVec n) (b : BitVec m) : (a ++ b).extractLsb' 0 m = b := by
  ext j hj
  simp [BitVec.getLsbD_append, hj]

theorem extract_append_high {n m : Nat} (a : BitVec n) (b : BitVec m) : (a ++ b).extractLsb' m n = a := by
  ext j hj
  simp [BitVec.getLsbD_append, hj]

/-- A word element lies in a doubleword element. -/
theorem wordAt_eq (q : Quad) {i : Nat} (h : i < 4) :
    wordAt q i = (dwordAt q (i / 2)).extractLsb' (32 - 32 * (i % 2)) 32 := by
  ext j hj
  have e : 96 - 32 * i + j = 64 - 64 * (i / 2) + (32 - 32 * (i % 2) + j) := by omega
  have e2 : 32 - 32 * (i % 2) + j < 64 := by omega
  simp [wordAt, dwordAt, e, e2]

/-- A halfword element lies in a word element. -/
theorem halfAt_eq (q : Quad) {i : Nat} (h : i < 8) :
    halfAt q i = (wordAt q (i / 2)).extractLsb' (16 - 16 * (i % 2)) 16 := by
  ext j hj
  have e : 112 - 16 * i + j = 96 - 32 * (i / 2) + (16 - 16 * (i % 2) + j) := by omega
  have e2 : 16 - 16 * (i % 2) + j < 32 := by omega
  simp [halfAt, wordAt, e, e2]

/-- A byte element lies in a halfword element. -/
theorem byteAt_eq (q : Quad) {i : Nat} (h : i < 16) :
    byteAt q i = (halfAt q (i / 2)).extractLsb' (8 - 8 * (i % 2)) 8 := by
  ext j hj
  have e : 120 - 8 * i + j = 112 - 16 * (i / 2) + (8 - 8 * (i % 2) + j) := by omega
  have e2 : 8 - 8 * (i % 2) + j < 16 := by omega
  simp [byteAt, halfAt, e, e2]

/-- Halfword element 1 is the low half of word element 0 (R14). -/
theorem halfAt_one (q : Quad) : halfAt q 1 = lowHalf (wordAt q 0) := halfAt_eq q (by decide)

theorem dwordAt_ofDwords (f : Nat → DWord) {i : Nat} (h : i < 2) : dwordAt (ofDwords f) i = f i := by
  interval_cases i
  · exact extract_append_high _ _
  · exact extract_append_low _ _

theorem wordAt_ofWords (f : Nat → Word) {i : Nat} (h : i < 4) : wordAt (ofWords f) i = f i := by
  rw [wordAt_eq _ h, ofWords, dwordAt_ofDwords _ (by omega)]
  rcases Nat.mod_two_eq_zero_or_one i with e | e <;> rw [e]
  · rw [extract_append_high]; congr 1; omega
  · rw [extract_append_low]; congr 1; omega

theorem halfAt_ofHalfs (f : Nat → Half) {i : Nat} (h : i < 8) : halfAt (ofHalfs f) i = f i := by
  rw [halfAt_eq _ h, ofHalfs, wordAt_ofWords _ (by omega)]
  rcases Nat.mod_two_eq_zero_or_one i with e | e <;> rw [e]
  · rw [extract_append_high]; congr 1; omega
  · rw [extract_append_low]; congr 1; omega

theorem byteAt_ofBytes (f : Nat → Byte) {i : Nat} (h : i < 16) : byteAt (ofBytes f) i = f i := by
  rw [byteAt_eq _ h, ofBytes, halfAt_ofHalfs _ (by omega)]
  rcases Nat.mod_two_eq_zero_or_one i with e | e <;> rw [e]
  · rw [extract_append_high]; congr 1; omega
  · rw [extract_append_low]; congr 1; omega

/-- Two values with the same bytes are the same. -/
theorem quad_ext_bytes {a b : Quad} (h : ∀ i, i < 16 → byteAt a i = byteAt b i) : a = b := by
  ext j hj
  have hb := congrArg (fun x => x.getLsbD (j % 8)) (h (15 - j / 8) (by omega))
  simp only [byteAt, BitVec.getLsbD_extractLsb'] at hb
  have e : 120 - 8 * (15 - j / 8) + j % 8 = j := by omega
  have e2 : j % 8 < 8 := by omega
  simpa [e, e2, hj] using hb

/-- Two values with the same halfwords are the same. -/
theorem quad_ext_halfs {a b : Quad} (h : ∀ i, i < 8 → halfAt a i = halfAt b i) : a = b :=
  quad_ext_bytes fun i hi => by rw [byteAt_eq a hi, byteAt_eq b hi, h _ (by omega)]

/-- Two values with the same words are the same. -/
theorem quad_ext_words {a b : Quad} (h : ∀ i, i < 4 → wordAt a i = wordAt b i) : a = b :=
  quad_ext_halfs fun i hi => by rw [halfAt_eq a hi, halfAt_eq b hi, h _ (by omega)]

/-- Two values with the same doublewords are the same. -/
theorem quad_ext_dwords {a b : Quad} (h : ∀ i, i < 2 → dwordAt a i = dwordAt b i) : a = b :=
  quad_ext_words fun i hi => by rw [wordAt_eq a hi, wordAt_eq b hi, h _ (by omega)]

theorem byteAt_bytes1 (f : Byte → Byte) (a : Quad) {i : Nat} (h : i < 16) :
    byteAt (bytes1 f a) i = f (byteAt a i) := byteAt_ofBytes _ h

theorem byteAt_bytes2 (f : Byte → Byte → Byte) (a b : Quad) {i : Nat} (h : i < 16) :
    byteAt (bytes2 f a b) i = f (byteAt a i) (byteAt b i) := byteAt_ofBytes _ h

theorem halfAt_halfs1 (f : Half → Half) (a : Quad) {i : Nat} (h : i < 8) :
    halfAt (halfs1 f a) i = f (halfAt a i) := halfAt_ofHalfs _ h

theorem halfAt_halfs2 (f : Half → Half → Half) (a b : Quad) {i : Nat} (h : i < 8) :
    halfAt (halfs2 f a b) i = f (halfAt a i) (halfAt b i) := halfAt_ofHalfs _ h

theorem wordAt_words1 (f : Word → Word) (a : Quad) {i : Nat} (h : i < 4) :
    wordAt (words1 f a) i = f (wordAt a i) := wordAt_ofWords _ h

theorem wordAt_words2 (f : Word → Word → Word) (a b : Quad) {i : Nat} (h : i < 4) :
    wordAt (words2 f a b) i = f (wordAt a i) (wordAt b i) := wordAt_ofWords _ h

theorem wordAt_words3 (f : Word → Word → Word → Word) (a b c : Quad) {i : Nat} (h : i < 4) :
    wordAt (words3 f a b c) i = f (wordAt a i) (wordAt b i) (wordAt c i) := wordAt_ofWords _ h

theorem dwordAt_dwords1 (f : DWord → DWord) (a : Quad) {i : Nat} (h : i < 2) :
    dwordAt (dwords1 f a) i = f (dwordAt a i) := dwordAt_ofDwords _ h

theorem dwordAt_dwords2 (f : DWord → DWord → DWord) (a b : Quad) {i : Nat} (h : i < 2) :
    dwordAt (dwords2 f a b) i = f (dwordAt a i) (dwordAt b i) := dwordAt_ofDwords _ h

theorem dwordAt_dwords3 (f : DWord → DWord → DWord → DWord) (a b c : Quad) {i : Nat} (h : i < 2) :
    dwordAt (dwords3 f a b c) i = f (dwordAt a i) (dwordAt b i) (dwordAt c i) := dwordAt_ofDwords _ h

/-- A scalar as a register value: word element 0 is the scalar, the others are 0. -/
theorem wordAt_inWord0 (w : Word) {i : Nat} (h : i < 4) : wordAt (inWord0 w) i = if i = 0 then w else 0 :=
  wordAt_ofWords _ h

/-- The scalar of a scalar. -/
theorem scalar_inWord0 (w : Word) : scalar (inWord0 w) = w := wordAt_inWord0 w (by decide)

end Sys2Proof.Laws
end

