-- ==== Sys2Proof/Laws/Memory.lean ====
section
/-! SUPPORT. Local storage (R70 to R75): a read after a write, what a write leaves alone, and that every write keeps the
canonical form. -/

namespace Sys2Proof.Laws

open Sys2Proof.Machine

theorem read_insert (m : Memory) (a : Nat) (b : Byte) (h : ∀ c ∈ m, c.1 ≠ a) (x : Nat) :
    (Memory.insert a b m).read x = if x = a then b else m.read x := by
  induction m with
  | nil =>
    by_cases e : a = x
    · simp [Memory.insert, Memory.read, e]
    · simp [Memory.insert, Memory.read, e, Ne.symm e]
  | cons c rest ih =>
    obtain ⟨k, v⟩ := c
    have hk : k ≠ a := h (k, v) (by simp)
    have ih := ih fun c hc => h c (by simp [hc])
    simp only [Memory.insert]
    by_cases e : x = a
    · subst e
      split
      · simp [Memory.read]
      · simp [Memory.read, hk, ih]
    · split
      · simp [Memory.read, Ne.symm e]
      · simp only [Memory.read, ih, e, if_false]

theorem read_filter (m : Memory) (a x : Nat) (h : x ≠ a) :
    Memory.read (m.filter fun c => c.1 ≠ a) x = m.read x := by
  induction m with
  | nil => rfl
  | cons c rest ih =>
    obtain ⟨k, v⟩ := c
    by_cases e : k = a
    · have : k ≠ x := by omega
      simpa [List.filter, e, Memory.read, show a ≠ x from Ne.symm h] using ih
    · simp only [List.filter, e, ne_eq, not_false_eq_true, decide_true, Memory.read]
      split
      · rfl
      · exact ih

theorem read_filter_self (m : Memory) (a : Nat) :
    Memory.read (m.filter fun c => c.1 ≠ a) a = Memory.unlisted := by
  induction m with
  | nil => rfl
  | cons c rest ih =>
    obtain ⟨k, v⟩ := c
    by_cases e : k = a
    · simpa [List.filter, e] using ih
    · simp only [List.filter, e, ne_eq, not_false_eq_true, decide_true, Memory.read, if_false]
      exact ih

/-- A read after a write of one byte: the byte written at its address, what was there before at every other (R74, R75). -/
theorem read_write (m : Memory) (a : Nat) (b : Byte) (x : Nat) :
    (m.write a b).read x = if x = a then b else m.read x := by
  unfold Memory.write
  split
  · rename_i hb
    by_cases e : x = a
    · simp only [e, if_true, hb]
      exact read_filter_self m a
    · simp only [e, if_false]
      exact read_filter m a x e
  · rw [read_insert _ _ _ (by simp)]
    by_cases e : x = a
    · simp [e]
    · simp only [e, if_false]
      exact read_filter m a x e

/-- A read after a write of several bytes: the byte of the list at its place, what was there before elsewhere (R75). -/
theorem read_writeBytes (bs : List Byte) (m : Memory) (a x : Nat) :
    (m.writeBytes a bs).read x =
      if h : a ≤ x ∧ x - a < bs.length then bs[x - a]'h.2 else m.read x := by
  induction bs generalizing m a with
  | nil => simp [Memory.writeBytes]
  | cons b bs ih =>
    rw [Memory.writeBytes, ih, read_write]
    by_cases e : x = a
    · subst e; simp
    · by_cases h : a ≤ x ∧ x - a < bs.length + 1
      · have h1 : a + 1 ≤ x ∧ x - (a + 1) < bs.length := by omega
        have h2 : x - a = x - (a + 1) + 1 := by omega
        simp [h, h1, h2]
      · have h1 : ¬ (a + 1 ≤ x ∧ x - (a + 1) < bs.length) := by omega
        have h2 : ¬ (a ≤ x ∧ x - a < (b :: bs).length) := by simpa using h
        rw [dif_neg h1, dif_neg h2, if_neg e]

/-- A byte read after a quadword store: a byte element inside the quadword, what was there before outside (R75). -/
theorem read_writeQuad (m : Memory) (a : Nat) (v : Quad) (x : Nat) :
    (m.writeQuad a v).read x = if a ≤ x ∧ x < a + 16 then byteAt v (x - a) else m.read x := by
  rw [Memory.writeQuad, read_writeBytes]
  by_cases h : a ≤ x ∧ x < a + 16
  · have h1 : a ≤ x ∧ x - a < ((List.range 16).map (byteAt v)).length := by simp; omega
    rw [dif_pos h1, if_pos h]
    simp
  · have h1 : ¬ (a ≤ x ∧ x - a < ((List.range 16).map (byteAt v)).length) := by simp; omega
    rw [dif_neg h1, if_neg h]

/-- Byte element i of a loaded quadword is the byte at offset i (R74). -/
theorem byteAt_readQuad (m : Memory) (a : Nat) {i : Nat} (h : i < 16) :
    byteAt (m.readQuad a) i = m.read (a + i) := byteAt_ofBytes _ h

/-- A load after a store to the same quadword gives the value stored (R74, R75, R78). -/
theorem readQuad_writeQuad (m : Memory) (a : Nat) (v : Quad) : (m.writeQuad a v).readQuad a = v :=
  quad_ext_bytes fun i h => by
    rw [byteAt_readQuad _ _ h, read_writeQuad, if_pos (by omega), Nat.add_sub_cancel_left]

/-- A load after a store to another quadword gives what was there before (R74, R75). -/
theorem readQuad_writeQuad_other (m : Memory) {a a' : Nat} (v : Quad) (h : a + 16 ≤ a' ∨ a' + 16 ≤ a) :
    (m.writeQuad a v).readQuad a' = m.readQuad a' :=
  quad_ext_bytes fun i hi => by
    rw [byteAt_readQuad _ _ hi, byteAt_readQuad _ _ hi, read_writeQuad, if_neg (by omega)]

/-! The canonical form. -/

theorem mem_insert (m : Memory) (a : Nat) (b : Byte) (c : Host.Cell) :
    c ∈ Memory.insert a b m ↔ c = (a, b) ∨ c ∈ m := by
  induction m with
  | nil => simp [Memory.insert]
  | cons d rest ih =>
    obtain ⟨k, v⟩ := d
    simp only [Memory.insert]
    split
    · simp
    · simp only [List.mem_cons, ih]; tauto

theorem wf_insert {m : Memory} (h : m.wf) {a : Nat} {b : Byte} (hb : b ≠ Memory.unlisted)
    (hm : ∀ c ∈ m, c.1 ≠ a) : (Memory.insert a b m).wf := by
  refine ⟨?_, fun c hc => ?_⟩
  · induction m with
    | nil => simp [Memory.insert]
    | cons d rest ih =>
      obtain ⟨k, v⟩ := d
      obtain ⟨hp, hz⟩ := h
      rw [List.pairwise_cons] at hp
      simp only [Memory.insert]
      split
      · rename_i hlt
        rw [List.pairwise_cons]
        refine ⟨fun c hc => ?_, List.pairwise_cons.2 hp⟩
        rcases List.mem_cons.1 hc with rfl | hc
        · exact hlt
        · exact Nat.lt_trans hlt (hp.1 c hc)
      · rename_i hlt
        have hk : k ≠ a := hm (k, v) (by simp)
        rw [List.pairwise_cons]
        refine ⟨fun c hc => ?_, ih ⟨hp.2, fun c hc => hz c (by simp [hc])⟩ fun c hc => hm c (by simp [hc])⟩
        rcases (mem_insert _ _ _ _).1 hc with rfl | hc
        · simp only; omega
        · exact hp.1 c hc
  · rcases (mem_insert _ _ _ _).1 hc with rfl | hc
    · exact hb
    · exact h.2 c hc

/-- A byte store keeps the canonical form. -/
theorem wf_write {m : Memory} (h : m.wf) (a : Nat) (b : Byte) : (m.write a b).wf := by
  have hf : Memory.wf (m.filter fun c => c.1 ≠ a) :=
    ⟨h.1.filter _, fun c hc => h.2 c (List.mem_of_mem_filter hc)⟩
  unfold Memory.write
  split
  · exact hf
  · rename_i hb
    exact wf_insert hf hb fun c hc => by simpa using (List.mem_filter.1 hc).2

/-- A store of several bytes keeps the canonical form. -/
theorem wf_writeBytes (bs : List Byte) {m : Memory} (h : m.wf) (a : Nat) : (m.writeBytes a bs).wf := by
  induction bs generalizing m a with
  | nil => exact h
  | cons b bs ih => exact ih (wf_write h a b) (a + 1)

/-- A quadword store keeps the canonical form. -/
theorem wf_writeQuad {m : Memory} (h : m.wf) (a : Nat) (v : Quad) : (m.writeQuad a v).wf := wf_writeBytes _ h a

/-- Storage after reset has the canonical form. -/
theorem wf_reset : State.reset.mem.wf := ⟨List.Pairwise.nil, fun _ h => nomatch h⟩

/-- A byte listed after a byte store was listed before, or is the byte stored. -/
theorem mem_write {m : Memory} {a : Nat} {b : Byte} {c : Host.Cell} (h : c ∈ m.write a b) :
    c = (a, b) ∨ c ∈ m := by
  unfold Memory.write at h
  split at h
  · exact Or.inr (List.mem_of_mem_filter h)
  · rcases (mem_insert _ _ _ _).1 h with h | h
    · exact Or.inl h
    · exact Or.inr (List.mem_of_mem_filter h)

/-- A byte listed after a store of several bytes was listed before, or lies among the bytes stored. -/
theorem mem_writeBytes (bs : List Byte) {m : Memory} {a : Nat} {c : Host.Cell} (h : c ∈ m.writeBytes a bs) :
    (a ≤ c.1 ∧ c.1 < a + bs.length) ∨ c ∈ m := by
  induction bs generalizing m a with
  | nil => exact Or.inr h
  | cons b bs ih =>
    simp only [List.length_cons]
    rcases ih h with h | h
    · left; omega
    · rcases mem_write h with rfl | h
      · left; simp only; omega
      · exact Or.inr h

/-- An address below every listed one reads as an unlisted address. -/
theorem read_of_lt {m : Memory} {a : Nat} (h : ∀ c ∈ m, a < c.1) : m.read a = Memory.unlisted := by
  induction m with
  | nil => rfl
  | cons d rest ih =>
    obtain ⟨k, v⟩ := d
    have : k ≠ a := by have := h (k, v) (by simp); simp only at this; omega
    simp only [Memory.read, this, if_false]
    exact ih fun c hc => h c (by simp [hc])

/-- The canonical form of the rest of a list. -/
theorem wf_tail {c : Host.Cell} {m : Memory} (h : Memory.wf (c :: m)) : Memory.wf m :=
  ⟨(List.pairwise_cons.1 h.1).2, fun d hd => h.2 d (by simp [hd])⟩

/-- Two memories in canonical form that read the same at every address are the same data. -/
theorem wf_ext {m m' : Memory} (h : m.wf) (h' : m'.wf) (hr : ∀ a, m.read a = m'.read a) : m = m' := by
  induction m generalizing m' with
  | nil =>
    cases m' with
    | nil => rfl
    | cons d rest =>
      have hd := hr d.1
      exact absurd (by simpa [Memory.read] using hd.symm) (h'.2 d (by simp))
  | cons c m ih =>
    have hc : c.2 ≠ Memory.unlisted := h.2 c (by simp)
    cases m' with
    | nil => exact absurd (by simpa [Memory.read] using hr c.1) hc
    | cons d m' =>
      have hd : d.2 ≠ Memory.unlisted := h'.2 d (by simp)
      have hp := List.pairwise_cons.1 h.1
      have hp' := List.pairwise_cons.1 h'.1
      have key : c.1 = d.1 := by
        rcases Nat.lt_trichotomy c.1 d.1 with hlt | he | hlt
        · have h1 : Memory.read (d :: m') c.1 = Memory.unlisted := read_of_lt fun e he => by
            rcases List.mem_cons.1 he with rfl | he
            · exact hlt
            · exact Nat.lt_trans hlt (hp'.1 e he)
          exact absurd (by rw [← h1, ← hr]; simp [Memory.read]) hc
        · exact he
        · have h1 : Memory.read (c :: m) d.1 = Memory.unlisted := read_of_lt fun e he => by
            rcases List.mem_cons.1 he with rfl | he
            · exact hlt
            · exact Nat.lt_trans hlt (hp.1 e he)
          exact absurd (by rw [← h1, hr]; simp [Memory.read]) hd
      have hv : c.2 = d.2 := by simpa [Memory.read, key] using hr c.1
      have hcd : c = d := Prod.ext key hv
      subst hcd
      congr 1
      refine ih (wf_tail h) (wf_tail h') fun a => ?_
      by_cases e : c.1 = a
      · rw [read_of_lt fun x hx => e ▸ hp.1 x hx, read_of_lt fun x hx => e ▸ hp'.1 x hx]
      · simpa [Memory.read, e] using hr a

end Sys2Proof.Laws
end

