-- ==== Sys2Proof/Laws/State.lean ====
section
/-! SUPPORT. What each named update of the state does to each field: one lemma per field per update. -/

namespace Sys2Proof.Laws

open Sys2Proof.Machine

/-- A register read after a register write (R16). -/
theorem reg_setReg (s : State) (r r' : RegNum) (v : Quad) :
    (s.setReg r v).reg r' = if r' = r then v else s.reg r' := by
  unfold State.reg State.setReg
  by_cases e : r' = r
  · subst e; simp
  · have : r.toNat ≠ r'.toNat := fun h => e (BitVec.eq_of_toNat_eq h.symm)
    simp [e, this]

/-- The register just written (R16). -/
@[simp] theorem reg_setReg_self (s : State) (r : RegNum) (v : Quad) : (s.setReg r v).reg r = v := by
  rw [reg_setReg, if_pos rfl]

/-- Another register than the one written (R16). -/
theorem reg_setReg_ne (s : State) {r r' : RegNum} (v : Quad) (h : r' ≠ r) : (s.setReg r v).reg r' = s.reg r' := by
  rw [reg_setReg, if_neg h]

@[simp] theorem setReg_gpr (s : State) (r : RegNum) (v : Quad) : (s.setReg r v).gpr = s.gpr.set r.toNat v r.isLt := rfl
@[simp] theorem setReg_pc (s : State) (r : RegNum) (v : Quad) : (s.setReg r v).pc = s.pc := rfl
@[simp] theorem setReg_ie (s : State) (r : RegNum) (v : Quad) : (s.setReg r v).ie = s.ie := rfl
@[simp] theorem setReg_fpscr (s : State) (r : RegNum) (v : Quad) : (s.setReg r v).fpscr = s.fpscr := rfl
@[simp] theorem setReg_srr0 (s : State) (r : RegNum) (v : Quad) : (s.setReg r v).srr0 = s.srr0 := rfl
@[simp] theorem setReg_npc (s : State) (r : RegNum) (v : Quad) : (s.setReg r v).npc = s.npc := rfl
@[simp] theorem setReg_stopCode (s : State) (r : RegNum) (v : Quad) : (s.setReg r v).stopCode = s.stopCode := rfl
@[simp] theorem setReg_run (s : State) (r : RegNum) (v : Quad) : (s.setReg r v).run = s.run := rfl
@[simp] theorem setReg_spr (s : State) (r : RegNum) (v : Quad) : (s.setReg r v).spr = s.spr := rfl
@[simp] theorem setReg_mem (s : State) (r : RegNum) (v : Quad) : (s.setReg r v).mem = s.mem := rfl
@[simp] theorem setReg_pendingStores (s : State) (r : RegNum) (v : Quad) : (s.setReg r v).pendingStores = s.pendingStores := rfl
@[simp] theorem setReg_unsynced (s : State) (r : RegNum) (v : Quad) : (s.setReg r v).unsynced = s.unsynced := rfl
@[simp] theorem setReg_eventPending (s : State) (r : RegNum) (v : Quad) : (s.setReg r v).eventPending = s.eventPending := rfl
@[simp] theorem setReg_eventMask (s : State) (r : RegNum) (v : Quad) : (s.setReg r v).eventMask = s.eventMask := rfl
@[simp] theorem setReg_decrementer (s : State) (r : RegNum) (v : Quad) : (s.setReg r v).decrementer = s.decrementer := rfl
@[simp] theorem setReg_sigNotify1 (s : State) (r : RegNum) (v : Quad) : (s.setReg r v).sigNotify1 = s.sigNotify1 := rfl
@[simp] theorem setReg_sigNotify2 (s : State) (r : RegNum) (v : Quad) : (s.setReg r v).sigNotify2 = s.sigNotify2 := rfl
@[simp] theorem setReg_inMbox (s : State) (r : RegNum) (v : Quad) : (s.setReg r v).inMbox = s.inMbox := rfl
@[simp] theorem setReg_outMbox (s : State) (r : RegNum) (v : Quad) : (s.setReg r v).outMbox = s.outMbox := rfl
@[simp] theorem setReg_outIntrMbox (s : State) (r : RegNum) (v : Quad) : (s.setReg r v).outIntrMbox = s.outIntrMbox := rfl
@[simp] theorem setReg_mfc (s : State) (r : RegNum) (v : Quad) : (s.setReg r v).mfc = s.mfc := rfl
@[simp] theorem setReg_ppuInterrupts (s : State) (r : RegNum) (v : Quad) : (s.setReg r v).ppuInterrupts = s.ppuInterrupts := rfl
@[simp] theorem setReg_env (s : State) (r : RegNum) (v : Quad) : (s.setReg r v).env = s.env := rfl
@[simp] theorem setReg_draws (s : State) (r : RegNum) (v : Quad) : (s.setReg r v).draws = s.draws := rfl

@[simp] theorem reg_advance (s : State) (x : RegNum) : (s.advance).reg x = s.reg x := rfl
@[simp] theorem advance_gpr (s : State) : (s.advance).gpr = s.gpr := rfl
@[simp] theorem advance_pc (s : State) : (s.advance).pc = nextPc s.pc := rfl
@[simp] theorem advance_ie (s : State) : (s.advance).ie = s.ie := rfl
@[simp] theorem advance_fpscr (s : State) : (s.advance).fpscr = s.fpscr := rfl
@[simp] theorem advance_srr0 (s : State) : (s.advance).srr0 = s.srr0 := rfl
@[simp] theorem advance_npc (s : State) : (s.advance).npc = s.npc := rfl
@[simp] theorem advance_stopCode (s : State) : (s.advance).stopCode = s.stopCode := rfl
@[simp] theorem advance_run (s : State) : (s.advance).run = s.run := rfl
@[simp] theorem advance_spr (s : State) : (s.advance).spr = s.spr := rfl
@[simp] theorem advance_mem (s : State) : (s.advance).mem = s.mem := rfl
@[simp] theorem advance_pendingStores (s : State) : (s.advance).pendingStores = s.pendingStores := rfl
@[simp] theorem advance_unsynced (s : State) : (s.advance).unsynced = s.unsynced := rfl
@[simp] theorem advance_eventPending (s : State) : (s.advance).eventPending = s.eventPending := rfl
@[simp] theorem advance_eventMask (s : State) : (s.advance).eventMask = s.eventMask := rfl
@[simp] theorem advance_decrementer (s : State) : (s.advance).decrementer = s.decrementer := rfl
@[simp] theorem advance_sigNotify1 (s : State) : (s.advance).sigNotify1 = s.sigNotify1 := rfl
@[simp] theorem advance_sigNotify2 (s : State) : (s.advance).sigNotify2 = s.sigNotify2 := rfl
@[simp] theorem advance_inMbox (s : State) : (s.advance).inMbox = s.inMbox := rfl
@[simp] theorem advance_outMbox (s : State) : (s.advance).outMbox = s.outMbox := rfl
@[simp] theorem advance_outIntrMbox (s : State) : (s.advance).outIntrMbox = s.outIntrMbox := rfl
@[simp] theorem advance_mfc (s : State) : (s.advance).mfc = s.mfc := rfl
@[simp] theorem advance_ppuInterrupts (s : State) : (s.advance).ppuInterrupts = s.ppuInterrupts := rfl
@[simp] theorem advance_env (s : State) : (s.advance).env = s.env := rfl
@[simp] theorem advance_draws (s : State) : (s.advance).draws = s.draws := rfl

@[simp] theorem reg_branchTo (s : State) (t : Word) (c : IeChange) (x : RegNum) : (s.branchTo t c).reg x = s.reg x := rfl
@[simp] theorem branchTo_gpr (s : State) (t : Word) (c : IeChange) : (s.branchTo t c).gpr = s.gpr := rfl
@[simp] theorem branchTo_pc (s : State) (t : Word) (c : IeChange) : (s.branchTo t c).pc = target t := rfl
@[simp] theorem branchTo_ie (s : State) (t : Word) (c : IeChange) : (s.branchTo t c).ie = c.apply s.ie := rfl
@[simp] theorem branchTo_fpscr (s : State) (t : Word) (c : IeChange) : (s.branchTo t c).fpscr = s.fpscr := rfl
@[simp] theorem branchTo_srr0 (s : State) (t : Word) (c : IeChange) : (s.branchTo t c).srr0 = s.srr0 := rfl
@[simp] theorem branchTo_npc (s : State) (t : Word) (c : IeChange) : (s.branchTo t c).npc = s.npc := rfl
@[simp] theorem branchTo_stopCode (s : State) (t : Word) (c : IeChange) : (s.branchTo t c).stopCode = s.stopCode := rfl
@[simp] theorem branchTo_run (s : State) (t : Word) (c : IeChange) : (s.branchTo t c).run = s.run := rfl
@[simp] theorem branchTo_spr (s : State) (t : Word) (c : IeChange) : (s.branchTo t c).spr = s.spr := rfl
@[simp] theorem branchTo_mem (s : State) (t : Word) (c : IeChange) : (s.branchTo t c).mem = s.mem := rfl
@[simp] theorem branchTo_pendingStores (s : State) (t : Word) (c : IeChange) : (s.branchTo t c).pendingStores = s.pendingStores := rfl
@[simp] theorem branchTo_unsynced (s : State) (t : Word) (c : IeChange) : (s.branchTo t c).unsynced = s.unsynced := rfl
@[simp] theorem branchTo_eventPending (s : State) (t : Word) (c : IeChange) : (s.branchTo t c).eventPending = s.eventPending := rfl
@[simp] theorem branchTo_eventMask (s : State) (t : Word) (c : IeChange) : (s.branchTo t c).eventMask = s.eventMask := rfl
@[simp] theorem branchTo_decrementer (s : State) (t : Word) (c : IeChange) : (s.branchTo t c).decrementer = s.decrementer := rfl
@[simp] theorem branchTo_sigNotify1 (s : State) (t : Word) (c : IeChange) : (s.branchTo t c).sigNotify1 = s.sigNotify1 := rfl
@[simp] theorem branchTo_sigNotify2 (s : State) (t : Word) (c : IeChange) : (s.branchTo t c).sigNotify2 = s.sigNotify2 := rfl
@[simp] theorem branchTo_inMbox (s : State) (t : Word) (c : IeChange) : (s.branchTo t c).inMbox = s.inMbox := rfl
@[simp] theorem branchTo_outMbox (s : State) (t : Word) (c : IeChange) : (s.branchTo t c).outMbox = s.outMbox := rfl
@[simp] theorem branchTo_outIntrMbox (s : State) (t : Word) (c : IeChange) : (s.branchTo t c).outIntrMbox = s.outIntrMbox := rfl
@[simp] theorem branchTo_mfc (s : State) (t : Word) (c : IeChange) : (s.branchTo t c).mfc = s.mfc := rfl
@[simp] theorem branchTo_ppuInterrupts (s : State) (t : Word) (c : IeChange) : (s.branchTo t c).ppuInterrupts = s.ppuInterrupts := rfl
@[simp] theorem branchTo_env (s : State) (t : Word) (c : IeChange) : (s.branchTo t c).env = s.env := rfl
@[simp] theorem branchTo_draws (s : State) (t : Word) (c : IeChange) : (s.branchTo t c).draws = s.draws := rfl

@[simp] theorem reg_storeQuad (s : State) (a : Nat) (v : Quad) (x : RegNum) : (s.storeQuad a v).reg x = s.reg x := rfl
@[simp] theorem storeQuad_gpr (s : State) (a : Nat) (v : Quad) : (s.storeQuad a v).gpr = s.gpr := rfl
@[simp] theorem storeQuad_pc (s : State) (a : Nat) (v : Quad) : (s.storeQuad a v).pc = s.pc := rfl
@[simp] theorem storeQuad_ie (s : State) (a : Nat) (v : Quad) : (s.storeQuad a v).ie = s.ie := rfl
@[simp] theorem storeQuad_fpscr (s : State) (a : Nat) (v : Quad) : (s.storeQuad a v).fpscr = s.fpscr := rfl
@[simp] theorem storeQuad_srr0 (s : State) (a : Nat) (v : Quad) : (s.storeQuad a v).srr0 = s.srr0 := rfl
@[simp] theorem storeQuad_npc (s : State) (a : Nat) (v : Quad) : (s.storeQuad a v).npc = s.npc := rfl
@[simp] theorem storeQuad_stopCode (s : State) (a : Nat) (v : Quad) : (s.storeQuad a v).stopCode = s.stopCode := rfl
@[simp] theorem storeQuad_run (s : State) (a : Nat) (v : Quad) : (s.storeQuad a v).run = s.run := rfl
@[simp] theorem storeQuad_spr (s : State) (a : Nat) (v : Quad) : (s.storeQuad a v).spr = s.spr := rfl
@[simp] theorem storeQuad_mem (s : State) (a : Nat) (v : Quad) : (s.storeQuad a v).mem = s.mem.writeQuad a v := rfl
@[simp] theorem storeQuad_pendingStores (s : State) (a : Nat) (v : Quad) : (s.storeQuad a v).pendingStores = s.pendingStores.insert a := rfl
@[simp] theorem storeQuad_unsynced (s : State) (a : Nat) (v : Quad) : (s.storeQuad a v).unsynced = markAll s.unsynced (wordsOfQuad a) := rfl
@[simp] theorem storeQuad_eventPending (s : State) (a : Nat) (v : Quad) : (s.storeQuad a v).eventPending = s.eventPending := rfl
@[simp] theorem storeQuad_eventMask (s : State) (a : Nat) (v : Quad) : (s.storeQuad a v).eventMask = s.eventMask := rfl
@[simp] theorem storeQuad_decrementer (s : State) (a : Nat) (v : Quad) : (s.storeQuad a v).decrementer = s.decrementer := rfl
@[simp] theorem storeQuad_sigNotify1 (s : State) (a : Nat) (v : Quad) : (s.storeQuad a v).sigNotify1 = s.sigNotify1 := rfl
@[simp] theorem storeQuad_sigNotify2 (s : State) (a : Nat) (v : Quad) : (s.storeQuad a v).sigNotify2 = s.sigNotify2 := rfl
@[simp] theorem storeQuad_inMbox (s : State) (a : Nat) (v : Quad) : (s.storeQuad a v).inMbox = s.inMbox := rfl
@[simp] theorem storeQuad_outMbox (s : State) (a : Nat) (v : Quad) : (s.storeQuad a v).outMbox = s.outMbox := rfl
@[simp] theorem storeQuad_outIntrMbox (s : State) (a : Nat) (v : Quad) : (s.storeQuad a v).outIntrMbox = s.outIntrMbox := rfl
@[simp] theorem storeQuad_mfc (s : State) (a : Nat) (v : Quad) : (s.storeQuad a v).mfc = s.mfc := rfl
@[simp] theorem storeQuad_ppuInterrupts (s : State) (a : Nat) (v : Quad) : (s.storeQuad a v).ppuInterrupts = s.ppuInterrupts := rfl
@[simp] theorem storeQuad_env (s : State) (a : Nat) (v : Quad) : (s.storeQuad a v).env = s.env := rfl
@[simp] theorem storeQuad_draws (s : State) (a : Nat) (v : Quad) : (s.storeQuad a v).draws = s.draws := rfl

@[simp] theorem reg_completeStores (s : State) (x : RegNum) : (s.completeStores).reg x = s.reg x := rfl
@[simp] theorem completeStores_gpr (s : State) : (s.completeStores).gpr = s.gpr := rfl
@[simp] theorem completeStores_pc (s : State) : (s.completeStores).pc = s.pc := rfl
@[simp] theorem completeStores_ie (s : State) : (s.completeStores).ie = s.ie := rfl
@[simp] theorem completeStores_fpscr (s : State) : (s.completeStores).fpscr = s.fpscr := rfl
@[simp] theorem completeStores_srr0 (s : State) : (s.completeStores).srr0 = s.srr0 := rfl
@[simp] theorem completeStores_npc (s : State) : (s.completeStores).npc = s.npc := rfl
@[simp] theorem completeStores_stopCode (s : State) : (s.completeStores).stopCode = s.stopCode := rfl
@[simp] theorem completeStores_run (s : State) : (s.completeStores).run = s.run := rfl
@[simp] theorem completeStores_spr (s : State) : (s.completeStores).spr = s.spr := rfl
@[simp] theorem completeStores_mem (s : State) : (s.completeStores).mem = s.mem := rfl
@[simp] theorem completeStores_pendingStores (s : State) : (s.completeStores).pendingStores = [] := rfl
@[simp] theorem completeStores_unsynced (s : State) : (s.completeStores).unsynced = s.unsynced := rfl
@[simp] theorem completeStores_eventPending (s : State) : (s.completeStores).eventPending = s.eventPending := rfl
@[simp] theorem completeStores_eventMask (s : State) : (s.completeStores).eventMask = s.eventMask := rfl
@[simp] theorem completeStores_decrementer (s : State) : (s.completeStores).decrementer = s.decrementer := rfl
@[simp] theorem completeStores_sigNotify1 (s : State) : (s.completeStores).sigNotify1 = s.sigNotify1 := rfl
@[simp] theorem completeStores_sigNotify2 (s : State) : (s.completeStores).sigNotify2 = s.sigNotify2 := rfl
@[simp] theorem completeStores_inMbox (s : State) : (s.completeStores).inMbox = s.inMbox := rfl
@[simp] theorem completeStores_outMbox (s : State) : (s.completeStores).outMbox = s.outMbox := rfl
@[simp] theorem completeStores_outIntrMbox (s : State) : (s.completeStores).outIntrMbox = s.outIntrMbox := rfl
@[simp] theorem completeStores_mfc (s : State) : (s.completeStores).mfc = s.mfc := rfl
@[simp] theorem completeStores_ppuInterrupts (s : State) : (s.completeStores).ppuInterrupts = s.ppuInterrupts := rfl
@[simp] theorem completeStores_env (s : State) : (s.completeStores).env = s.env := rfl
@[simp] theorem completeStores_draws (s : State) : (s.completeStores).draws = s.draws := rfl

@[simp] theorem reg_synchronize (s : State) (x : RegNum) : (s.synchronize).reg x = s.reg x := rfl
@[simp] theorem synchronize_gpr (s : State) : (s.synchronize).gpr = s.gpr := rfl
@[simp] theorem synchronize_pc (s : State) : (s.synchronize).pc = s.pc := rfl
@[simp] theorem synchronize_ie (s : State) : (s.synchronize).ie = s.ie := rfl
@[simp] theorem synchronize_fpscr (s : State) : (s.synchronize).fpscr = s.fpscr := rfl
@[simp] theorem synchronize_srr0 (s : State) : (s.synchronize).srr0 = s.srr0 := rfl
@[simp] theorem synchronize_npc (s : State) : (s.synchronize).npc = s.npc := rfl
@[simp] theorem synchronize_stopCode (s : State) : (s.synchronize).stopCode = s.stopCode := rfl
@[simp] theorem synchronize_run (s : State) : (s.synchronize).run = s.run := rfl
@[simp] theorem synchronize_spr (s : State) : (s.synchronize).spr = s.spr := rfl
@[simp] theorem synchronize_mem (s : State) : (s.synchronize).mem = s.mem := rfl
@[simp] theorem synchronize_pendingStores (s : State) : (s.synchronize).pendingStores = [] := rfl
@[simp] theorem synchronize_unsynced (s : State) : (s.synchronize).unsynced = [] := rfl
@[simp] theorem synchronize_eventPending (s : State) : (s.synchronize).eventPending = s.eventPending := rfl
@[simp] theorem synchronize_eventMask (s : State) : (s.synchronize).eventMask = s.eventMask := rfl
@[simp] theorem synchronize_decrementer (s : State) : (s.synchronize).decrementer = s.decrementer := rfl
@[simp] theorem synchronize_sigNotify1 (s : State) : (s.synchronize).sigNotify1 = s.sigNotify1 := rfl
@[simp] theorem synchronize_sigNotify2 (s : State) : (s.synchronize).sigNotify2 = s.sigNotify2 := rfl
@[simp] theorem synchronize_inMbox (s : State) : (s.synchronize).inMbox = s.inMbox := rfl
@[simp] theorem synchronize_outMbox (s : State) : (s.synchronize).outMbox = s.outMbox := rfl
@[simp] theorem synchronize_outIntrMbox (s : State) : (s.synchronize).outIntrMbox = s.outIntrMbox := rfl
@[simp] theorem synchronize_mfc (s : State) : (s.synchronize).mfc = s.mfc := rfl
@[simp] theorem synchronize_ppuInterrupts (s : State) : (s.synchronize).ppuInterrupts = s.ppuInterrupts := rfl
@[simp] theorem synchronize_env (s : State) : (s.synchronize).env = s.env := rfl
@[simp] theorem synchronize_draws (s : State) : (s.synchronize).draws = s.draws := rfl

@[simp] theorem reg_takeInterrupt (s : State) (x : RegNum) : (s.takeInterrupt).reg x = s.reg x := rfl
@[simp] theorem takeInterrupt_gpr (s : State) : (s.takeInterrupt).gpr = s.gpr := rfl
@[simp] theorem takeInterrupt_pc (s : State) : (s.takeInterrupt).pc = Config.intVector := rfl
@[simp] theorem takeInterrupt_ie (s : State) : (s.takeInterrupt).ie = false := rfl
@[simp] theorem takeInterrupt_fpscr (s : State) : (s.takeInterrupt).fpscr = s.fpscr := rfl
@[simp] theorem takeInterrupt_srr0 (s : State) : (s.takeInterrupt).srr0 = s.pc := rfl
@[simp] theorem takeInterrupt_npc (s : State) : (s.takeInterrupt).npc = s.npc := rfl
@[simp] theorem takeInterrupt_stopCode (s : State) : (s.takeInterrupt).stopCode = s.stopCode := rfl
@[simp] theorem takeInterrupt_run (s : State) : (s.takeInterrupt).run = s.run := rfl
@[simp] theorem takeInterrupt_spr (s : State) : (s.takeInterrupt).spr = s.spr := rfl
@[simp] theorem takeInterrupt_mem (s : State) : (s.takeInterrupt).mem = s.mem := rfl
@[simp] theorem takeInterrupt_pendingStores (s : State) : (s.takeInterrupt).pendingStores = s.pendingStores := rfl
@[simp] theorem takeInterrupt_unsynced (s : State) : (s.takeInterrupt).unsynced = s.unsynced := rfl
@[simp] theorem takeInterrupt_eventPending (s : State) : (s.takeInterrupt).eventPending = s.eventPending := rfl
@[simp] theorem takeInterrupt_eventMask (s : State) : (s.takeInterrupt).eventMask = s.eventMask := rfl
@[simp] theorem takeInterrupt_decrementer (s : State) : (s.takeInterrupt).decrementer = s.decrementer := rfl
@[simp] theorem takeInterrupt_sigNotify1 (s : State) : (s.takeInterrupt).sigNotify1 = s.sigNotify1 := rfl
@[simp] theorem takeInterrupt_sigNotify2 (s : State) : (s.takeInterrupt).sigNotify2 = s.sigNotify2 := rfl
@[simp] theorem takeInterrupt_inMbox (s : State) : (s.takeInterrupt).inMbox = s.inMbox := rfl
@[simp] theorem takeInterrupt_outMbox (s : State) : (s.takeInterrupt).outMbox = s.outMbox := rfl
@[simp] theorem takeInterrupt_outIntrMbox (s : State) : (s.takeInterrupt).outIntrMbox = s.outIntrMbox := rfl
@[simp] theorem takeInterrupt_mfc (s : State) : (s.takeInterrupt).mfc = s.mfc := rfl
@[simp] theorem takeInterrupt_ppuInterrupts (s : State) : (s.takeInterrupt).ppuInterrupts = s.ppuInterrupts := rfl
@[simp] theorem takeInterrupt_env (s : State) : (s.takeInterrupt).env = s.env := rfl
@[simp] theorem takeInterrupt_draws (s : State) : (s.takeInterrupt).draws = s.draws := rfl

@[simp] theorem reg_drawn (s : State) (x : RegNum) : (s.drawn).reg x = s.reg x := rfl
@[simp] theorem drawn_gpr (s : State) : (s.drawn).gpr = s.gpr := rfl
@[simp] theorem drawn_pc (s : State) : (s.drawn).pc = s.pc := rfl
@[simp] theorem drawn_ie (s : State) : (s.drawn).ie = s.ie := rfl
@[simp] theorem drawn_fpscr (s : State) : (s.drawn).fpscr = s.fpscr := rfl
@[simp] theorem drawn_srr0 (s : State) : (s.drawn).srr0 = s.srr0 := rfl
@[simp] theorem drawn_npc (s : State) : (s.drawn).npc = s.npc := rfl
@[simp] theorem drawn_stopCode (s : State) : (s.drawn).stopCode = s.stopCode := rfl
@[simp] theorem drawn_run (s : State) : (s.drawn).run = s.run := rfl
@[simp] theorem drawn_spr (s : State) : (s.drawn).spr = s.spr := rfl
@[simp] theorem drawn_mem (s : State) : (s.drawn).mem = s.mem := rfl
@[simp] theorem drawn_pendingStores (s : State) : (s.drawn).pendingStores = s.pendingStores := rfl
@[simp] theorem drawn_unsynced (s : State) : (s.drawn).unsynced = s.unsynced := rfl
@[simp] theorem drawn_eventPending (s : State) : (s.drawn).eventPending = s.eventPending := rfl
@[simp] theorem drawn_eventMask (s : State) : (s.drawn).eventMask = s.eventMask := rfl
@[simp] theorem drawn_decrementer (s : State) : (s.drawn).decrementer = s.decrementer := rfl
@[simp] theorem drawn_sigNotify1 (s : State) : (s.drawn).sigNotify1 = s.sigNotify1 := rfl
@[simp] theorem drawn_sigNotify2 (s : State) : (s.drawn).sigNotify2 = s.sigNotify2 := rfl
@[simp] theorem drawn_inMbox (s : State) : (s.drawn).inMbox = s.inMbox := rfl
@[simp] theorem drawn_outMbox (s : State) : (s.drawn).outMbox = s.outMbox := rfl
@[simp] theorem drawn_outIntrMbox (s : State) : (s.drawn).outIntrMbox = s.outIntrMbox := rfl
@[simp] theorem drawn_mfc (s : State) : (s.drawn).mfc = s.mfc := rfl
@[simp] theorem drawn_ppuInterrupts (s : State) : (s.drawn).ppuInterrupts = s.ppuInterrupts := rfl
@[simp] theorem drawn_env (s : State) : (s.drawn).env = s.env := rfl
@[simp] theorem drawn_draws (s : State) : (s.drawn).draws = s.draws + 1 := rfl

@[simp] theorem reg_sprWrite (s : State) (n : SprNum) (v : Word) (x : RegNum) : (s.sprWrite n v).reg x = s.reg x := rfl
@[simp] theorem sprWrite_gpr (s : State) (n : SprNum) (v : Word) : (s.sprWrite n v).gpr = s.gpr := rfl
@[simp] theorem sprWrite_pc (s : State) (n : SprNum) (v : Word) : (s.sprWrite n v).pc = s.pc := rfl
@[simp] theorem sprWrite_ie (s : State) (n : SprNum) (v : Word) : (s.sprWrite n v).ie = s.ie := rfl
@[simp] theorem sprWrite_fpscr (s : State) (n : SprNum) (v : Word) : (s.sprWrite n v).fpscr = s.fpscr := rfl
@[simp] theorem sprWrite_srr0 (s : State) (n : SprNum) (v : Word) : (s.sprWrite n v).srr0 = s.srr0 := rfl
@[simp] theorem sprWrite_npc (s : State) (n : SprNum) (v : Word) : (s.sprWrite n v).npc = s.npc := rfl
@[simp] theorem sprWrite_stopCode (s : State) (n : SprNum) (v : Word) : (s.sprWrite n v).stopCode = s.stopCode := rfl
@[simp] theorem sprWrite_run (s : State) (n : SprNum) (v : Word) : (s.sprWrite n v).run = s.run := rfl
@[simp] theorem sprWrite_spr (s : State) (n : SprNum) (v : Word) : (s.sprWrite n v).spr = s.spr.map fun e => if e.1 = n then (e.1, v) else e := rfl
@[simp] theorem sprWrite_mem (s : State) (n : SprNum) (v : Word) : (s.sprWrite n v).mem = s.mem := rfl
@[simp] theorem sprWrite_pendingStores (s : State) (n : SprNum) (v : Word) : (s.sprWrite n v).pendingStores = s.pendingStores := rfl
@[simp] theorem sprWrite_unsynced (s : State) (n : SprNum) (v : Word) : (s.sprWrite n v).unsynced = s.unsynced := rfl
@[simp] theorem sprWrite_eventPending (s : State) (n : SprNum) (v : Word) : (s.sprWrite n v).eventPending = s.eventPending := rfl
@[simp] theorem sprWrite_eventMask (s : State) (n : SprNum) (v : Word) : (s.sprWrite n v).eventMask = s.eventMask := rfl
@[simp] theorem sprWrite_decrementer (s : State) (n : SprNum) (v : Word) : (s.sprWrite n v).decrementer = s.decrementer := rfl
@[simp] theorem sprWrite_sigNotify1 (s : State) (n : SprNum) (v : Word) : (s.sprWrite n v).sigNotify1 = s.sigNotify1 := rfl
@[simp] theorem sprWrite_sigNotify2 (s : State) (n : SprNum) (v : Word) : (s.sprWrite n v).sigNotify2 = s.sigNotify2 := rfl
@[simp] theorem sprWrite_inMbox (s : State) (n : SprNum) (v : Word) : (s.sprWrite n v).inMbox = s.inMbox := rfl
@[simp] theorem sprWrite_outMbox (s : State) (n : SprNum) (v : Word) : (s.sprWrite n v).outMbox = s.outMbox := rfl
@[simp] theorem sprWrite_outIntrMbox (s : State) (n : SprNum) (v : Word) : (s.sprWrite n v).outIntrMbox = s.outIntrMbox := rfl
@[simp] theorem sprWrite_mfc (s : State) (n : SprNum) (v : Word) : (s.sprWrite n v).mfc = s.mfc := rfl
@[simp] theorem sprWrite_ppuInterrupts (s : State) (n : SprNum) (v : Word) : (s.sprWrite n v).ppuInterrupts = s.ppuInterrupts := rfl
@[simp] theorem sprWrite_env (s : State) (n : SprNum) (v : Word) : (s.sprWrite n v).env = s.env := rfl
@[simp] theorem sprWrite_draws (s : State) (n : SprNum) (v : Word) : (s.sprWrite n v).draws = s.draws := rfl

@[simp] theorem reg_raiseEvent (s : State) (e : Config.Event) (x : RegNum) : (s.raiseEvent e).reg x = s.reg x := rfl
@[simp] theorem raiseEvent_gpr (s : State) (e : Config.Event) : (s.raiseEvent e).gpr = s.gpr := rfl
@[simp] theorem raiseEvent_pc (s : State) (e : Config.Event) : (s.raiseEvent e).pc = s.pc := rfl
@[simp] theorem raiseEvent_ie (s : State) (e : Config.Event) : (s.raiseEvent e).ie = s.ie := rfl
@[simp] theorem raiseEvent_fpscr (s : State) (e : Config.Event) : (s.raiseEvent e).fpscr = s.fpscr := rfl
@[simp] theorem raiseEvent_srr0 (s : State) (e : Config.Event) : (s.raiseEvent e).srr0 = s.srr0 := rfl
@[simp] theorem raiseEvent_npc (s : State) (e : Config.Event) : (s.raiseEvent e).npc = s.npc := rfl
@[simp] theorem raiseEvent_stopCode (s : State) (e : Config.Event) : (s.raiseEvent e).stopCode = s.stopCode := rfl
@[simp] theorem raiseEvent_run (s : State) (e : Config.Event) : (s.raiseEvent e).run = s.run := rfl
@[simp] theorem raiseEvent_spr (s : State) (e : Config.Event) : (s.raiseEvent e).spr = s.spr := rfl
@[simp] theorem raiseEvent_mem (s : State) (e : Config.Event) : (s.raiseEvent e).mem = s.mem := rfl
@[simp] theorem raiseEvent_pendingStores (s : State) (e : Config.Event) : (s.raiseEvent e).pendingStores = s.pendingStores := rfl
@[simp] theorem raiseEvent_unsynced (s : State) (e : Config.Event) : (s.raiseEvent e).unsynced = s.unsynced := rfl
@[simp] theorem raiseEvent_eventPending (s : State) (e : Config.Event) : (s.raiseEvent e).eventPending = s.eventPending ||| eventWord e := rfl
@[simp] theorem raiseEvent_eventMask (s : State) (e : Config.Event) : (s.raiseEvent e).eventMask = s.eventMask := rfl
@[simp] theorem raiseEvent_decrementer (s : State) (e : Config.Event) : (s.raiseEvent e).decrementer = s.decrementer := rfl
@[simp] theorem raiseEvent_sigNotify1 (s : State) (e : Config.Event) : (s.raiseEvent e).sigNotify1 = s.sigNotify1 := rfl
@[simp] theorem raiseEvent_sigNotify2 (s : State) (e : Config.Event) : (s.raiseEvent e).sigNotify2 = s.sigNotify2 := rfl
@[simp] theorem raiseEvent_inMbox (s : State) (e : Config.Event) : (s.raiseEvent e).inMbox = s.inMbox := rfl
@[simp] theorem raiseEvent_outMbox (s : State) (e : Config.Event) : (s.raiseEvent e).outMbox = s.outMbox := rfl
@[simp] theorem raiseEvent_outIntrMbox (s : State) (e : Config.Event) : (s.raiseEvent e).outIntrMbox = s.outIntrMbox := rfl
@[simp] theorem raiseEvent_mfc (s : State) (e : Config.Event) : (s.raiseEvent e).mfc = s.mfc := rfl
@[simp] theorem raiseEvent_ppuInterrupts (s : State) (e : Config.Event) : (s.raiseEvent e).ppuInterrupts = s.ppuInterrupts := rfl
@[simp] theorem raiseEvent_env (s : State) (e : Config.Event) : (s.raiseEvent e).env = s.env := rfl
@[simp] theorem raiseEvent_draws (s : State) (e : Config.Event) : (s.raiseEvent e).draws = s.draws := rfl

@[simp] theorem enqueue_lsa (m : Mfc) (c : MfcCommand) : (m.enqueue c).lsa = m.lsa := rfl
@[simp] theorem enqueue_eah (m : Mfc) (c : MfcCommand) : (m.enqueue c).eah = m.eah := rfl
@[simp] theorem enqueue_eal (m : Mfc) (c : MfcCommand) : (m.enqueue c).eal = m.eal := rfl
@[simp] theorem enqueue_size (m : Mfc) (c : MfcCommand) : (m.enqueue c).size = m.size := rfl
@[simp] theorem enqueue_tagId (m : Mfc) (c : MfcCommand) : (m.enqueue c).tagId = m.tagId := rfl
@[simp] theorem enqueue_queue (m : Mfc) (c : MfcCommand) : (m.enqueue c).queue = m.queue ++ [c] := rfl
@[simp] theorem enqueue_transfers (m : Mfc) (c : MfcCommand) : (m.enqueue c).transfers = m.transfers ++ [{ command := c, moved := [] }] := rfl
@[simp] theorem enqueue_tagMask (m : Mfc) (c : MfcCommand) : (m.enqueue c).tagMask = m.tagMask := rfl
@[simp] theorem enqueue_tagUpdate (m : Mfc) (c : MfcCommand) : (m.enqueue c).tagUpdate = m.tagUpdate := rfl
@[simp] theorem enqueue_tagStat (m : Mfc) (c : MfcCommand) : (m.enqueue c).tagStat = m.tagStat := rfl
@[simp] theorem enqueue_listStall (m : Mfc) (c : MfcCommand) : (m.enqueue c).listStall = m.listStall := rfl
@[simp] theorem enqueue_listStallAck (m : Mfc) (c : MfcCommand) : (m.enqueue c).listStallAck = m.listStallAck := rfl
@[simp] theorem enqueue_atomicStat (m : Mfc) (c : MfcCommand) : (m.enqueue c).atomicStat = m.atomicStat := rfl
@[simp] theorem enqueue_msSyncReq (m : Mfc) (c : MfcCommand) : (m.enqueue c).msSyncReq = m.msSyncReq := rfl

@[simp] theorem observed_lsa (m : Mfc) (r : Word) : (m.observed r).lsa = m.lsa := rfl
@[simp] theorem observed_eah (m : Mfc) (r : Word) : (m.observed r).eah = m.eah := rfl
@[simp] theorem observed_eal (m : Mfc) (r : Word) : (m.observed r).eal = m.eal := rfl
@[simp] theorem observed_size (m : Mfc) (r : Word) : (m.observed r).size = m.size := rfl
@[simp] theorem observed_tagId (m : Mfc) (r : Word) : (m.observed r).tagId = m.tagId := rfl
@[simp] theorem observed_queue (m : Mfc) (r : Word) : (m.observed r).queue = m.queue := rfl
@[simp] theorem observed_transfers (m : Mfc) (r : Word) : (m.observed r).transfers = m.transfers.filter fun t => t.tagWord &&& r = 0 := rfl
@[simp] theorem observed_tagMask (m : Mfc) (r : Word) : (m.observed r).tagMask = m.tagMask := rfl
@[simp] theorem observed_tagUpdate (m : Mfc) (r : Word) : (m.observed r).tagUpdate = m.tagUpdate := rfl
@[simp] theorem observed_tagStat (m : Mfc) (r : Word) : (m.observed r).tagStat = none := rfl
@[simp] theorem observed_listStall (m : Mfc) (r : Word) : (m.observed r).listStall = m.listStall := rfl
@[simp] theorem observed_listStallAck (m : Mfc) (r : Word) : (m.observed r).listStallAck = m.listStallAck := rfl
@[simp] theorem observed_atomicStat (m : Mfc) (r : Word) : (m.observed r).atomicStat = m.atomicStat := rfl
@[simp] theorem observed_msSyncReq (m : Mfc) (r : Word) : (m.observed r).msSyncReq = m.msSyncReq := rfl

/-- Every general register is 0 after reset (log 4). -/
@[simp] theorem reg_reset (r : RegNum) : State.reset.reg r = 0 := by
  simp [State.reg, State.reset]

end Sys2Proof.Laws
end

