-- ==== Sys2Proof/Laws/Ops.lean ====
section
/-! SUPPORT. What each shared operation can do, said once: the results and what stays unchanged. -/

namespace Sys2Proof.Laws

open Sys2Proof.Machine

/-! Addresses. -/

theorem nextPc_toNat (pc : Word) : (nextPc pc).toNat = (pc.toNat + 4) % Config.lsSize := by
  unfold nextPc Config.lsSize
  rw [BitVec.toNat_ofNat, Nat.mod_eq_of_lt (by omega)]

theorem target_toNat (t : Word) : (target t).toNat = t.toNat % Config.lsSize / 4 * 4 := by
  unfold target Config.lsSize
  rw [BitVec.toNat_ofNat, Nat.mod_eq_of_lt (by omega)]

/-- The next instruction's address is legal (R37, R38). -/
theorem nextPc_legal {pc : Word} (h : pcLegal pc) : pcLegal (nextPc pc) := by
  unfold pcLegal at *
  rw [nextPc_toNat]
  unfold Config.lsSize at *
  omega

/-- A branch target is legal (R360). -/
theorem target_legal (t : Word) : pcLegal (target t) := by
  unfold pcLegal
  rw [target_toNat]
  unfold Config.lsSize
  omega

/-- The target of a legal address is that address (R360). -/
theorem target_of_legal {pc : Word} (h : pcLegal pc) : target pc = pc := by
  apply BitVec.eq_of_toNat_eq
  rw [target_toNat]
  unfold pcLegal Config.lsSize at *
  omega

/-- The interrupt's entry address is legal (R510). -/
theorem intVector_legal : pcLegal Config.intVector := by decide

/-- An effective address is an aligned quadword inside local storage (R73, R400). -/
theorem effAddr_legal (t : Word) : effAddr t % 16 = 0 ∧ effAddr t + 16 ≤ Config.lsSize := by
  unfold effAddr Config.lsSize
  omega

/-! Writing one register. -/

theorem sameSystem_refl (s : State) : sameSystem s s :=
  ⟨rfl, rfl, rfl, rfl, rfl, rfl, rfl, rfl, rfl, rfl, rfl, rfl, rfl, rfl, rfl, rfl, rfl⟩

/-- A register write followed by the next instruction leaves everything else alone (R35, R38). -/
theorem onlyReg_write (rt : RegNum) (v : Quad) (s : State) : onlyReg rt s (s.setReg rt v).advance := by
  refine ⟨rfl, fun r hr => ?_, fun _ => rfl, rfl, rfl, ⟨rfl, rfl⟩, sameSystem_refl s⟩
  rw [reg_advance, reg_setReg_ne _ _ (by simpa using hr)]

/-- All that `writeResult` does. -/
theorem writeResult_spec (rt : RegNum) (v : Quad) (s : State) :
    ∃ t, writeResult rt v s = .next t ∧ t.reg rt = v ∧ onlyReg rt s t :=
  ⟨_, rfl, by simp, onlyReg_write rt v s⟩

/-- All that `loadFrom` does (R401). -/
theorem loadFrom_spec (rt : RegNum) (a : Word) (s : State) :
    ∃ t, loadFrom rt a s = .next t ∧ t.reg rt = s.mem.readQuad (effAddr a) ∧ onlyReg rt s t :=
  writeResult_spec rt _ s

/-- All that `storeTo` does (R401): the quadword at the effective address takes the register, every other byte and every
register stays. -/
theorem storeTo_spec (rc : RegNum) (a : Word) (s : State) :
    ∃ t, storeTo rc a s = .next t ∧ t.mem.readQuad (effAddr a) = s.reg rc ∧ sameBytesOutside (effAddr a) s t ∧
      sameRegsExcept [] s t ∧ t.pc = nextPc s.pc ∧ t.ie = s.ie ∧ t.fpscr = s.fpscr ∧ sameSystem s t := by
  refine ⟨_, rfl, ?_, fun x hx => ?_, fun _ _ => rfl, rfl, rfl, rfl, sameSystem_refl s⟩
  · simp [readQuad_writeQuad]
  · rw [advance_mem, storeQuad_mem, read_writeQuad, if_neg (by omega)]

/-! Branches. -/

/-- All that `branchIf` does (R360, R362). -/
theorem branchIf_cases (taken : Bool) (a : Word) (c : IeChange) (s : State) :
    (taken = true ∧ branchIf taken a c s = .next (s.branchTo a c)) ∨
    (taken = false ∧ branchIf taken a c s = .next s.advance) := by
  cases taken
  · exact .inr ⟨rfl, rfl⟩
  · exact .inl ⟨rfl, rfl⟩

/-- All that `haltIf` does (R331, R501). -/
theorem haltIf_cases (c : Bool) (s : State) :
    (c = true ∧ haltIf c s = .next { s with run := .halted }) ∨ (c = false ∧ haltIf c s = .next s.advance) := by
  cases c
  · exact .inr ⟨rfl, rfl⟩
  · exact .inl ⟨rfl, rfl⟩

/-! Store marks. -/

theorem mem_markAll (as l : List Nat) (x : Nat) : x ∈ markAll l as ↔ x ∈ l ∨ x ∈ as := by
  induction as generalizing l with
  | nil => simp [markAll]
  | cons a as ih =>
    rw [markAll, List.foldl_cons, ← markAll, ih, List.mem_insert_iff, List.mem_cons]
    tauto

/-! Channels. -/

/-- A channel read changes nothing but the device it reads and the count of draws. -/
theorem channelRead_frame {s t : State} {ch : ChNum} {w : Word} (h : s.channelRead ch = some (w, t)) :
    t.gpr = s.gpr ∧ t.pc = s.pc ∧ t.ie = s.ie ∧ t.fpscr = s.fpscr ∧ t.srr0 = s.srr0 ∧ t.npc = s.npc ∧
    t.stopCode = s.stopCode ∧ t.run = s.run ∧ t.spr = s.spr ∧ t.mem = s.mem ∧ t.pendingStores = s.pendingStores ∧
    t.unsynced = s.unsynced ∧ t.eventPending = s.eventPending ∧ t.eventMask = s.eventMask ∧
    t.decrementer = s.decrementer ∧ t.outMbox = s.outMbox ∧ t.outIntrMbox = s.outIntrMbox ∧
    t.mfc.queue = s.mfc.queue ∧ t.inMbox.length ≤ s.inMbox.length ∧ t.ppuInterrupts = s.ppuInterrupts ∧
    t.env = s.env := by
  unfold State.channelRead at h
  split at h
  case h_1 =>
    split at h
    · cases h
    · cases h; simp
  all_goals first
    | contradiction
    | (cases h; simp [State.drawn])
    | (obtain ⟨x, -, hx⟩ := Option.map_eq_some_iff.1 h; cases hx; simp)

/-- A channel write changes no register, no program counter, no interrupt-enable bit and no byte of local storage. -/
theorem channelWrite_frame {s t : State} {ch : ChNum} {v : Word} (h : s.channelWrite ch v = some t) :
    t.gpr = s.gpr ∧ t.pc = s.pc ∧ t.ie = s.ie ∧ t.fpscr = s.fpscr ∧ t.npc = s.npc ∧
    t.stopCode = s.stopCode ∧ t.run = s.run ∧ t.spr = s.spr ∧ t.mem = s.mem ∧ t.pendingStores = s.pendingStores ∧
    t.unsynced = s.unsynced ∧ t.sigNotify1 = s.sigNotify1 ∧ t.sigNotify2 = s.sigNotify2 ∧ t.inMbox = s.inMbox ∧
    t.env = s.env ∧ t.draws = s.draws ∧
    (s.mfc.queue.length ≤ Config.mfcQueueDepth → t.mfc.queue.length ≤ Config.mfcQueueDepth) := by
  unfold State.channelWrite at h
  split at h
  case h_11 =>
    split at h
    · cases h; simp [Config.mfcQueueDepth] at *; omega
    · cases h
  all_goals first
    | contradiction
    | (cases h; simp)
    | (split at h <;> first | contradiction | (cases h; simp))

/-- A channel read opens no transfer and moves no byte of one (R82). -/
theorem channelRead_transfers {s t : State} {ch : ChNum} {w : Word} (h : s.channelRead ch = some (w, t)) :
    ∀ x ∈ t.mfc.transfers, x ∈ s.mfc.transfers := by
  unfold State.channelRead at h
  split at h
  case h_1 =>
    split at h
    · cases h
    · cases h; exact fun _ hx => hx
  case h_9 =>
    obtain ⟨v, -, e⟩ := Option.map_eq_some_iff.1 h
    cases e
    exact fun _ hx => List.mem_of_mem_filter hx
  all_goals first
    | contradiction
    | (cases h; exact fun _ hx => hx)
    | (obtain ⟨v, -, e⟩ := Option.map_eq_some_iff.1 h; cases e; exact fun _ hx => hx)

/-- The only transfer that a channel write can open has moved no byte yet (R82). -/
theorem channelWrite_transfers {s t : State} {ch : ChNum} {v : Word} (h : s.channelWrite ch v = some t) :
    ∀ x ∈ t.mfc.transfers, x ∈ s.mfc.transfers ∨ x.moved = [] := by
  unfold State.channelWrite at h
  split at h
  case h_11 =>
    split at h
    · cases h
      intro x hx
      rcases List.mem_append.1 hx with hx | hx
      · exact .inl hx
      · exact .inr (by rw [List.mem_singleton.1 hx])
    · cases h
  all_goals first
    | contradiction
    | (cases h; exact fun _ hx => .inl hx)
    | (split at h <;> first | contradiction | (cases h; exact fun _ hx => .inl hx))

/-! Other agents. -/

/-- What another agent's write leaves alone: everything but local storage and the marks of unsynchronized words. -/
def storageOnly (s t : State) : Prop := ∃ mem unsynced, t = { s with mem := mem, unsynced := unsynced }

theorem agentByte_storageOnly (s : State) (a : Nat) (b : Byte) : storageOnly s (s.agentByte a b) := by
  unfold State.agentByte
  split
  · exact ⟨_, _, rfl⟩
  · exact ⟨s.mem, s.unsynced, rfl⟩

/-- Another agent changes local storage and its marks only (R82). -/
theorem agentBytes_storageOnly (cells : List Host.Cell) (s : State) : storageOnly s (s.agentBytes cells) := by
  induction cells generalizing s with
  | nil => exact ⟨s.mem, s.unsynced, rfl⟩
  | cons c cells ih =>
    obtain ⟨_, _, h⟩ := agentByte_storageOnly s c.1 c.2
    obtain ⟨m, u, h'⟩ := ih (s.agentByte c.1 c.2)
    exact ⟨m, u, h'.trans (by rw [h])⟩

/-- A byte of local storage that no cell names reads as before. -/
theorem read_agentBytes (cells : List Host.Cell) (s : State) (a : Nat) (h : ∀ c ∈ cells, c.1 ≠ a) :
    (s.agentBytes cells).mem.read a = s.mem.read a := by
  induction cells generalizing s with
  | nil => rfl
  | cons c cells ih =>
    refine (ih (s.agentByte c.1 c.2) fun d hd => h d (List.mem_cons_of_mem _ hd)).trans ?_
    unfold State.agentByte
    split
    · exact (read_write _ _ _ _).trans (if_neg fun e => h c List.mem_cons_self e.symm)
    · rfl

/-- What the `n`th transfer does when it may make an access: its bytes count as moved, and where it moves data into local
storage they are stored; in every other case nothing happens (R82). -/
theorem dmaMove_cases (s : State) (n k : Nat) (bytes : List Byte) :
    s.dmaMove n k bytes = s ∨
    ∃ t, s.mfc.transfers[n]? = some t ∧ t.mayMove k = true ∧
      let moved : Transfer := { t with moved := t.access k ++ t.moved }
      let after : State := { s with mfc := { s.mfc with transfers := s.mfc.transfers.set n moved } }
      s.dmaMove n k bytes = after ∨
      t.kind = .toStorage ∧ s.dmaMove n k bytes = after.agentBytes (((t.access k).map t.addr).zip bytes) := by
  unfold State.dmaMove
  split
  · exact .inl rfl
  · rename_i t ht
    split
    · rename_i hm
      refine .inr ⟨t, ht, hm.1, ?_⟩
      dsimp only
      cases hk : t.kind
      · exact .inr ⟨rfl, rfl⟩
      · exact .inl rfl
      · exact .inl rfl
    · exact .inl rfl

/-- A tag with an unfinished transfer is not reported complete (R82). -/
theorem reportedTags_unfinished {m : Mfc} {t : Transfer} (w : Word) (ht : t ∈ m.transfers) (hu : t.unfinished = true) :
    t.tagWord &&& m.reportedTags w = 0#32 := by
  have h : ∀ ts : List Transfer, t ∈ ts → t.tagWord &&& ~~~(unfinishedTags ts) = 0#32 := by
    intro ts
    induction ts with
    | nil => intro h; cases h
    | cons u ts ih =>
      intro h
      rw [unfinishedTags, List.foldr_cons, ← unfinishedTags]
      rcases List.mem_cons.1 h with rfl | h
      · rw [if_pos hu]; ext j hj; simp +contextual
      · have ih := ih h
        split
        · rw [BitVec.not_or, BitVec.and_comm (~~~u.tagWord), ← BitVec.and_assoc, ih, BitVec.zero_and]
        · exact ih
  rw [Mfc.reportedTags, BitVec.and_comm (w &&& m.tagMask), ← BitVec.and_assoc, h _ ht, BitVec.zero_and]

/-! The step. -/

/-- A step delivers the action that is due, or runs one instruction. -/
theorem step_cases (s : State) :
    (s.env = [] ∧ step s = runInstruction s) ∨
    (∃ later, s.env = .quiet :: later ∧ step s = runInstruction { s with env := later }) ∨
    (∃ a later, s.env = a :: later ∧ a ≠ .quiet ∧ step s = .next ({ s with env := later }.deliver a)) := by
  unfold step
  split
  · exact .inl ⟨‹_›, rfl⟩
  · exact .inr (.inl ⟨_, ‹_›, rfl⟩)
  · rename_i a later hne he
    exact .inr (.inr ⟨a, later, he, fun h => hne (h ▸ rfl), rfl⟩)

/-- A running SPU executes the instruction it fetches. -/
theorem runInstruction_of_fetch {s : State} {i : Instr} (hr : s.run = .running) (hf : s.fetch = .next i) :
    runInstruction s = exec i s := by
  simp [runInstruction, hr, hf]

/-- A stopped or halted SPU executes nothing (R500, R501). -/
theorem runInstruction_of_not_running {s : State} (h : s.run ≠ .running) : runInstruction s = .next s := by
  unfold runInstruction
  split
  · contradiction
  · rfl
  · rfl

/-- A fetch that answers an instruction decodes it from the four bytes at the pc, none of them stale (R76, R80). -/
theorem fetch_eq_next {s : State} {i : Instr} (h : s.fetch = .next i) :
    s.staleAtPc = false ∧ ∃ rest, decode s.fetchBytes = .ok (i, rest) := by
  unfold State.fetch at h
  split at h
  · cases h
  · rename_i hs
    refine ⟨by simpa using hs, ?_⟩
    split at h
    · cases h; exact ⟨_, ‹_›⟩
    · rename_i e _
      cases e <;> simp [decodeStop] at h

end Sys2Proof.Laws
end

