-- ==== Sys2Proof/Tests/Slice0.lean ====
section
/-! SUPPORT. Tests.  Expected results are those of the spec: the words of R140 to R142, the worked example of each rule, the
vectors of 95_test_vectors.md; and, at the end, a witness for the hypotheses of each obligation that has some. -/

/- Hundreds of small theorems: elaborated one after another, so that few threads run at once. -/
set_option Elab.async false

namespace Sys2Proof.Tests

open Machine

/-- A register value by its four words (R14). -/
def quad (w0 w1 w2 w3 : Word) : Quad := ofWords fun i => [w0, w1, w2, w3].getD i 0

/-- The state after reset at address 0x100 with some registers set. -/
def start (regs : List (RegNum × Quad)) : State :=
  regs.foldl (fun s e => s.setReg e.1 e.2) { State.reset with pc := 0x100 }

/-- What `f` sees of the next state, if there is one. -/
def seen (o : Outcome) {α : Type} (f : State → α) : Option α :=
  match o with
  | .next t => some (f t)
  | .fault _ => none
  | .refused _ => none

/-- The refusal, if the outcome is one. -/
def refusal (o : Outcome) : Option Refusal :=
  match o with
  | .next _ => none
  | .fault _ => none
  | .refused r => some r

/-- The fault, if the outcome is one. -/
def fault (o : Outcome) : Option Fault :=
  match o with
  | .next _ => none
  | .fault r => some r
  | .refused _ => none

/-- Register 3 of the next state. -/
def reg3 (o : Outcome) : Option Quad := seen o fun t => t.reg 3

/-- pc and IE of the next state. -/
def control (o : Outcome) : Option (Word × Bool) := seen o fun t => (t.pc, t.ie)

/-! Each check of WellFormed refuses an ill-formed term. -/

theorem test_wf_s18 : (Instr.br 6).wf = false := by decide
theorem test_wf_s18_hint : (Instr.hbrr 8 6).wf = false := by decide
theorem test_wf_s14 : (Instr.lqd 3 31 4).wf = false := by decide
theorem test_wf_s11 : (Instr.hbr 6 4).wf = false := by decide
theorem test_wf_s6 : (Instr.rothmi 3 4 32).wf = false := by decide
theorem test_wf_s6_low : (Instr.rotqmbyi 3 4 (-33)).wf = false := by decide
theorem test_wf_u3 : (Instr.shlqbii 3 4 8).wf = false := by decide
theorem test_wf_u5 : (Instr.shlhi 3 4 32).wf = false := by decide
theorem test_wf_u6 : (Instr.shli 3 4 64).wf = false := by decide
theorem test_wf_scale : (Instr.cflts 3 4 128).wf = false := by decide

/-! Decoding: the word of each instruction, field by field from R140 to R142. -/

theorem test_decode_a : decodeWord 0b00011000000_0000101_0000100_0000011#32 = .ok (.a 3 4 5) := by decide
theorem test_decode_absdb : decodeWord 0b00001010011_0000101_0000100_0000011#32 = .ok (.absdb 3 4 5) := by decide
theorem test_decode_addx : decodeWord 0b01101000000_0000101_0000100_0000011#32 = .ok (.addx 3 4 5) := by decide
theorem test_decode_ah : decodeWord 0b00011001000_0000101_0000100_0000011#32 = .ok (.ah 3 4 5) := by decide
theorem test_decode_ahi : decodeWord 0b00011101_1000001100_0000100_0000011#32 = .ok (.ahi 3 4 524) := by decide
theorem test_decode_ai : decodeWord 0b00011100_1000001100_0000100_0000011#32 = .ok (.ai 3 4 524) := by decide
theorem test_decode_and : decodeWord 0b00011000001_0000101_0000100_0000011#32 = .ok (.and 3 4 5) := by decide
theorem test_decode_andbi : decodeWord 0b00010110_1000001100_0000100_0000011#32 = .ok (.andbi 3 4 524) := by decide
theorem test_decode_andc : decodeWord 0b01011000001_0000101_0000100_0000011#32 = .ok (.andc 3 4 5) := by decide
theorem test_decode_andhi : decodeWord 0b00010101_1000001100_0000100_0000011#32 = .ok (.andhi 3 4 524) := by decide
theorem test_decode_andi : decodeWord 0b00010100_1000001100_0000100_0000011#32 = .ok (.andi 3 4 524) := by decide
theorem test_decode_avgb : decodeWord 0b00011010011_0000101_0000100_0000011#32 = .ok (.avgb 3 4 5) := by decide
theorem test_decode_bg : decodeWord 0b00001000010_0000101_0000100_0000011#32 = .ok (.bg 3 4 5) := by decide
theorem test_decode_bgx : decodeWord 0b01101000011_0000101_0000100_0000011#32 = .ok (.bgx 3 4 5) := by decide
theorem test_decode_bi : decodeWord 0b00110101000_0_00_0000_0000100_0000000#32 = .ok (.bi 4) := by decide
theorem test_decode_bid : decodeWord 0b00110101000_0_10_0000_0000100_0000000#32 = .ok (.bid 4) := by decide
theorem test_decode_bie : decodeWord 0b00110101000_0_01_0000_0000100_0000000#32 = .ok (.bie 4) := by decide
theorem test_decode_bihnz : decodeWord 0b00100101011_0_00_0000_0000100_0000110#32 = .ok (.bihnz 6 4) := by decide
theorem test_decode_bihnzd : decodeWord 0b00100101011_0_10_0000_0000100_0000110#32 = .ok (.bihnzd 6 4) := by decide
theorem test_decode_bihnze : decodeWord 0b00100101011_0_01_0000_0000100_0000110#32 = .ok (.bihnze 6 4) := by decide
theorem test_decode_bihz : decodeWord 0b00100101010_0_00_0000_0000100_0000110#32 = .ok (.bihz 6 4) := by decide
theorem test_decode_bihzd : decodeWord 0b00100101010_0_10_0000_0000100_0000110#32 = .ok (.bihzd 6 4) := by decide
theorem test_decode_bihze : decodeWord 0b00100101010_0_01_0000_0000100_0000110#32 = .ok (.bihze 6 4) := by decide
theorem test_decode_binz : decodeWord 0b00100101001_0_00_0000_0000100_0000110#32 = .ok (.binz 6 4) := by decide
theorem test_decode_binzd : decodeWord 0b00100101001_0_10_0000_0000100_0000110#32 = .ok (.binzd 6 4) := by decide
theorem test_decode_binze : decodeWord 0b00100101001_0_01_0000_0000100_0000110#32 = .ok (.binze 6 4) := by decide
theorem test_decode_bisl : decodeWord 0b00110101001_0_00_0000_0000100_0000011#32 = .ok (.bisl 3 4) := by decide
theorem test_decode_bisld : decodeWord 0b00110101001_0_10_0000_0000100_0000011#32 = .ok (.bisld 3 4) := by decide
theorem test_decode_bisle : decodeWord 0b00110101001_0_01_0000_0000100_0000011#32 = .ok (.bisle 3 4) := by decide
theorem test_decode_bisled : decodeWord 0b00110101011_0_00_0000_0000100_0000011#32 = .ok (.bisled 3 4) := by decide
theorem test_decode_bisledd : decodeWord 0b00110101011_0_10_0000_0000100_0000011#32 = .ok (.bisledd 3 4) := by decide
theorem test_decode_bislede : decodeWord 0b00110101011_0_01_0000_0000100_0000011#32 = .ok (.bislede 3 4) := by decide
theorem test_decode_biz : decodeWord 0b00100101000_0_00_0000_0000100_0000110#32 = .ok (.biz 6 4) := by decide
theorem test_decode_bizd : decodeWord 0b00100101000_0_10_0000_0000100_0000110#32 = .ok (.bizd 6 4) := by decide
theorem test_decode_bize : decodeWord 0b00100101000_0_01_0000_0000100_0000110#32 = .ok (.bize 6 4) := by decide
theorem test_decode_br : decodeWord 0b001100100_1111101101110011_0000000#32 = .ok (.br 257484) := by decide
theorem test_decode_bra : decodeWord 0b001100000_1111101101110011_0000000#32 = .ok (.bra 257484) := by decide
theorem test_decode_brasl : decodeWord 0b001100010_1111101101110011_0000011#32 = .ok (.brasl 3 257484) := by decide
theorem test_decode_brhnz : decodeWord 0b001000110_1111101101110011_0000110#32 = .ok (.brhnz 6 257484) := by decide
theorem test_decode_brhz : decodeWord 0b001000100_1111101101110011_0000110#32 = .ok (.brhz 6 257484) := by decide
theorem test_decode_brnz : decodeWord 0b001000010_1111101101110011_0000110#32 = .ok (.brnz 6 257484) := by decide
theorem test_decode_brsl : decodeWord 0b001100110_1111101101110011_0000011#32 = .ok (.brsl 3 257484) := by decide
theorem test_decode_brz : decodeWord 0b001000000_1111101101110011_0000110#32 = .ok (.brz 6 257484) := by decide
theorem test_decode_cbd : decodeWord 0b00111110100_1001000_0000100_0000011#32 = .ok (.cbd 3 72 4) := by decide
theorem test_decode_cbx : decodeWord 0b00111010100_0000101_0000100_0000011#32 = .ok (.cbx 3 4 5) := by decide
theorem test_decode_cdd : decodeWord 0b00111110111_1001000_0000100_0000011#32 = .ok (.cdd 3 72 4) := by decide
theorem test_decode_cdx : decodeWord 0b00111010111_0000101_0000100_0000011#32 = .ok (.cdx 3 4 5) := by decide
theorem test_decode_ceq : decodeWord 0b01111000000_0000101_0000100_0000011#32 = .ok (.ceq 3 4 5) := by decide
theorem test_decode_ceqb : decodeWord 0b01111010000_0000101_0000100_0000011#32 = .ok (.ceqb 3 4 5) := by decide
theorem test_decode_ceqbi : decodeWord 0b01111110_1000001100_0000100_0000011#32 = .ok (.ceqbi 3 4 524) := by decide
theorem test_decode_ceqh : decodeWord 0b01111001000_0000101_0000100_0000011#32 = .ok (.ceqh 3 4 5) := by decide
theorem test_decode_ceqhi : decodeWord 0b01111101_1000001100_0000100_0000011#32 = .ok (.ceqhi 3 4 524) := by decide
theorem test_decode_ceqi : decodeWord 0b01111100_1000001100_0000100_0000011#32 = .ok (.ceqi 3 4 524) := by decide
theorem test_decode_cflts : decodeWord 0b0111011000_10100100_0000100_0000011#32 = .ok (.cflts 3 4 9) := by decide
theorem test_decode_cfltu : decodeWord 0b0111011001_10100100_0000100_0000011#32 = .ok (.cfltu 3 4 9) := by decide
theorem test_decode_cg : decodeWord 0b00011000010_0000101_0000100_0000011#32 = .ok (.cg 3 4 5) := by decide
theorem test_decode_cgt : decodeWord 0b01001000000_0000101_0000100_0000011#32 = .ok (.cgt 3 4 5) := by decide
theorem test_decode_cgtb : decodeWord 0b01001010000_0000101_0000100_0000011#32 = .ok (.cgtb 3 4 5) := by decide
theorem test_decode_cgtbi : decodeWord 0b01001110_1000001100_0000100_0000011#32 = .ok (.cgtbi 3 4 524) := by decide
theorem test_decode_cgth : decodeWord 0b01001001000_0000101_0000100_0000011#32 = .ok (.cgth 3 4 5) := by decide
theorem test_decode_cgthi : decodeWord 0b01001101_1000001100_0000100_0000011#32 = .ok (.cgthi 3 4 524) := by decide
theorem test_decode_cgti : decodeWord 0b01001100_1000001100_0000100_0000011#32 = .ok (.cgti 3 4 524) := by decide
theorem test_decode_cgx : decodeWord 0b01101000010_0000101_0000100_0000011#32 = .ok (.cgx 3 4 5) := by decide
theorem test_decode_chd : decodeWord 0b00111110101_1001000_0000100_0000011#32 = .ok (.chd 3 72 4) := by decide
theorem test_decode_chx : decodeWord 0b00111010101_0000101_0000100_0000011#32 = .ok (.chx 3 4 5) := by decide
theorem test_decode_clgt : decodeWord 0b01011000000_0000101_0000100_0000011#32 = .ok (.clgt 3 4 5) := by decide
theorem test_decode_clgtb : decodeWord 0b01011010000_0000101_0000100_0000011#32 = .ok (.clgtb 3 4 5) := by decide
theorem test_decode_clgtbi : decodeWord 0b01011110_1000001100_0000100_0000011#32 = .ok (.clgtbi 3 4 524) := by decide
theorem test_decode_clgth : decodeWord 0b01011001000_0000101_0000100_0000011#32 = .ok (.clgth 3 4 5) := by decide
theorem test_decode_clgthi : decodeWord 0b01011101_1000001100_0000100_0000011#32 = .ok (.clgthi 3 4 524) := by decide
theorem test_decode_clgti : decodeWord 0b01011100_1000001100_0000100_0000011#32 = .ok (.clgti 3 4 524) := by decide
theorem test_decode_clz : decodeWord 0b01010100101_0000000_0000100_0000011#32 = .ok (.clz 3 4) := by decide
theorem test_decode_cntb : decodeWord 0b01010110100_0000000_0000100_0000011#32 = .ok (.cntb 3 4) := by decide
theorem test_decode_csflt : decodeWord 0b0111011010_10010010_0000100_0000011#32 = .ok (.csflt 3 4 9) := by decide
theorem test_decode_cuflt : decodeWord 0b0111011011_10010010_0000100_0000011#32 = .ok (.cuflt 3 4 9) := by decide
theorem test_decode_cwd : decodeWord 0b00111110110_1001000_0000100_0000011#32 = .ok (.cwd 3 72 4) := by decide
theorem test_decode_cwx : decodeWord 0b00111010110_0000101_0000100_0000011#32 = .ok (.cwx 3 4 5) := by decide
theorem test_decode_dfa : decodeWord 0b01011001100_0000101_0000100_0000011#32 = .ok (.dfa 3 4 5) := by decide
theorem test_decode_dfm : decodeWord 0b01011001110_0000101_0000100_0000011#32 = .ok (.dfm 3 4 5) := by decide
theorem test_decode_dfma : decodeWord 0b01101011100_0000101_0000100_0000011#32 = .ok (.dfma 3 4 5) := by decide
theorem test_decode_dfms : decodeWord 0b01101011101_0000101_0000100_0000011#32 = .ok (.dfms 3 4 5) := by decide
theorem test_decode_dfnma : decodeWord 0b01101011111_0000101_0000100_0000011#32 = .ok (.dfnma 3 4 5) := by decide
theorem test_decode_dfnms : decodeWord 0b01101011110_0000101_0000100_0000011#32 = .ok (.dfnms 3 4 5) := by decide
theorem test_decode_dfs : decodeWord 0b01011001101_0000101_0000100_0000011#32 = .ok (.dfs 3 4 5) := by decide
theorem test_decode_dsync : decodeWord 0b00000000011_000000000000000000000#32 = .ok (.dsync) := by decide
theorem test_decode_eqv : decodeWord 0b01001001001_0000101_0000100_0000011#32 = .ok (.eqv 3 4 5) := by decide
theorem test_decode_fa : decodeWord 0b01011000100_0000101_0000100_0000011#32 = .ok (.fa 3 4 5) := by decide
theorem test_decode_fceq : decodeWord 0b01111000010_0000101_0000100_0000011#32 = .ok (.fceq 3 4 5) := by decide
theorem test_decode_fcgt : decodeWord 0b01011000010_0000101_0000100_0000011#32 = .ok (.fcgt 3 4 5) := by decide
theorem test_decode_fcmeq : decodeWord 0b01111001010_0000101_0000100_0000011#32 = .ok (.fcmeq 3 4 5) := by decide
theorem test_decode_fcmgt : decodeWord 0b01011001010_0000101_0000100_0000011#32 = .ok (.fcmgt 3 4 5) := by decide
theorem test_decode_fesd : decodeWord 0b01110111000_0000000_0000100_0000011#32 = .ok (.fesd 3 4) := by decide
theorem test_decode_fi : decodeWord 0b01111010100_0000101_0000100_0000011#32 = .ok (.fi 3 4 5) := by decide
theorem test_decode_fm : decodeWord 0b01011000110_0000101_0000100_0000011#32 = .ok (.fm 3 4 5) := by decide
theorem test_decode_fma : decodeWord 0b1110_0000011_0000101_0000100_0000110#32 = .ok (.fma 3 4 5 6) := by decide
theorem test_decode_fms : decodeWord 0b1111_0000011_0000101_0000100_0000110#32 = .ok (.fms 3 4 5 6) := by decide
theorem test_decode_fnms : decodeWord 0b1101_0000011_0000101_0000100_0000110#32 = .ok (.fnms 3 4 5 6) := by decide
theorem test_decode_frds : decodeWord 0b01110111001_0000000_0000100_0000011#32 = .ok (.frds 3 4) := by decide
theorem test_decode_frest : decodeWord 0b00110111000_0000000_0000100_0000011#32 = .ok (.frest 3 4) := by decide
theorem test_decode_frsqest : decodeWord 0b00110111001_0000000_0000100_0000011#32 = .ok (.frsqest 3 4) := by decide
theorem test_decode_fs : decodeWord 0b01011000101_0000101_0000100_0000011#32 = .ok (.fs 3 4 5) := by decide
theorem test_decode_fscrrd : decodeWord 0b01110011000_00000000000000_0000011#32 = .ok (.fscrrd 3) := by decide
theorem test_decode_fscrwr : decodeWord 0b01110111010_0000000_0000100_0000110#32 = .ok (.fscrwr 6 4) := by decide
theorem test_decode_fsm : decodeWord 0b00110110100_0000000_0000100_0000011#32 = .ok (.fsm 3 4) := by decide
theorem test_decode_fsmb : decodeWord 0b00110110110_0000000_0000100_0000011#32 = .ok (.fsmb 3 4) := by decide
theorem test_decode_fsmbi : decodeWord 0b001100101_1010010111000011_0000011#32 = .ok (.fsmbi 3 42435) := by decide
theorem test_decode_fsmh : decodeWord 0b00110110101_0000000_0000100_0000011#32 = .ok (.fsmh 3 4) := by decide
theorem test_decode_gb : decodeWord 0b00110110000_0000000_0000100_0000011#32 = .ok (.gb 3 4) := by decide
theorem test_decode_gbb : decodeWord 0b00110110010_0000000_0000100_0000011#32 = .ok (.gbb 3 4) := by decide
theorem test_decode_gbh : decodeWord 0b00110110001_0000000_0000100_0000011#32 = .ok (.gbh 3 4) := by decide
theorem test_decode_hbr : decodeWord 0b001101011000_0000_10_0000100_1110011#32 = .ok (.hbr 1484 4) := by decide
theorem test_decode_hbra : decodeWord 0b0001000_10_1111101101110011_1110011#32 = .ok (.hbra 1484 257484) := by decide
theorem test_decode_hbrp : decodeWord 0b001101011001_0000_00_0000000_0000000#32 = .ok (.hbrp) := by decide
theorem test_decode_hbrr : decodeWord 0b0001001_10_1111101101110011_1110011#32 = .ok (.hbrr 1484 257484) := by decide
theorem test_decode_heq : decodeWord 0b01111011000_0000101_0000100_0000011#32 = .ok (.heq 3 4 5) := by decide
theorem test_decode_heqi : decodeWord 0b01111111_1000001100_0000100_0000011#32 = .ok (.heqi 3 4 524) := by decide
theorem test_decode_hgt : decodeWord 0b01001011000_0000101_0000100_0000011#32 = .ok (.hgt 3 4 5) := by decide
theorem test_decode_hgti : decodeWord 0b01001111_1000001100_0000100_0000011#32 = .ok (.hgti 3 4 524) := by decide
theorem test_decode_hlgt : decodeWord 0b01011011000_0000101_0000100_0000011#32 = .ok (.hlgt 3 4 5) := by decide
theorem test_decode_hlgti : decodeWord 0b01011111_1000001100_0000100_0000011#32 = .ok (.hlgti 3 4 524) := by decide
theorem test_decode_il : decodeWord 0b010000001_1110110111001100_0000011#32 = .ok (.il 3 60876) := by decide
theorem test_decode_ila : decodeWord 0b0100001_101010010111000011_0000011#32 = .ok (.ila 3 173507) := by decide
theorem test_decode_ilh : decodeWord 0b010000011_1010010111000011_0000011#32 = .ok (.ilh 3 42435) := by decide
theorem test_decode_ilhu : decodeWord 0b010000010_1010010111000011_0000011#32 = .ok (.ilhu 3 42435) := by decide
theorem test_decode_iohl : decodeWord 0b011000001_1010010111000011_0000011#32 = .ok (.iohl 3 42435) := by decide
theorem test_decode_iret : decodeWord 0b00110101010_0_00_0000_0000100_0000000#32 = .ok (.iret 4) := by decide
theorem test_decode_iretd : decodeWord 0b00110101010_0_10_0000_0000100_0000000#32 = .ok (.iretd 4) := by decide
theorem test_decode_irete : decodeWord 0b00110101010_0_01_0000_0000100_0000000#32 = .ok (.irete 4) := by decide
theorem test_decode_lnop : decodeWord 0b00000000001_000000000000000000000#32 = .ok (.lnop) := by decide
theorem test_decode_lqa : decodeWord 0b001100001_1111101101110011_0000011#32 = .ok (.lqa 3 257484) := by decide
theorem test_decode_lqd : decodeWord 0b00110100_1011011101_0000100_0000011#32 = .ok (.lqd 3 11728 4) := by decide
theorem test_decode_lqr : decodeWord 0b001100111_1111101101110011_0000011#32 = .ok (.lqr 3 257484) := by decide
theorem test_decode_lqx : decodeWord 0b00111000100_0000101_0000100_0000011#32 = .ok (.lqx 3 4 5) := by decide
theorem test_decode_mfspr : decodeWord 0b00000001100_0000000_0000101_0000011#32 = .ok (.mfspr 3 5) := by decide
theorem test_decode_mpy : decodeWord 0b01111000100_0000101_0000100_0000011#32 = .ok (.mpy 3 4 5) := by decide
theorem test_decode_mpya : decodeWord 0b1100_0000011_0000101_0000100_0000110#32 = .ok (.mpya 3 4 5 6) := by decide
theorem test_decode_mpyh : decodeWord 0b01111000101_0000101_0000100_0000011#32 = .ok (.mpyh 3 4 5) := by decide
theorem test_decode_mpyhh : decodeWord 0b01111000110_0000101_0000100_0000011#32 = .ok (.mpyhh 3 4 5) := by decide
theorem test_decode_mpyhha : decodeWord 0b01101000110_0000101_0000100_0000011#32 = .ok (.mpyhha 3 4 5) := by decide
theorem test_decode_mpyhhau : decodeWord 0b01101001110_0000101_0000100_0000011#32 = .ok (.mpyhhau 3 4 5) := by decide
theorem test_decode_mpyhhu : decodeWord 0b01111001110_0000101_0000100_0000011#32 = .ok (.mpyhhu 3 4 5) := by decide
theorem test_decode_mpyi : decodeWord 0b01110100_1000001100_0000100_0000011#32 = .ok (.mpyi 3 4 524) := by decide
theorem test_decode_mpys : decodeWord 0b01111000111_0000101_0000100_0000011#32 = .ok (.mpys 3 4 5) := by decide
theorem test_decode_mpyu : decodeWord 0b01111001100_0000101_0000100_0000011#32 = .ok (.mpyu 3 4 5) := by decide
theorem test_decode_mpyui : decodeWord 0b01110101_1000001100_0000100_0000011#32 = .ok (.mpyui 3 4 524) := by decide
theorem test_decode_mtspr : decodeWord 0b00100001100_0000000_0000101_0000100#32 = .ok (.mtspr 5 4) := by decide
theorem test_decode_nand : decodeWord 0b00011001001_0000101_0000100_0000011#32 = .ok (.nand 3 4 5) := by decide
theorem test_decode_nop : decodeWord 0b01000000001_00000000000000_0000011#32 = .ok (.nop 3) := by decide
theorem test_decode_nor : decodeWord 0b00001001001_0000101_0000100_0000011#32 = .ok (.nor 3 4 5) := by decide
theorem test_decode_or : decodeWord 0b00001000001_0000101_0000100_0000011#32 = .ok (.or 3 4 5) := by decide
theorem test_decode_orbi : decodeWord 0b00000110_1000001100_0000100_0000011#32 = .ok (.orbi 3 4 524) := by decide
theorem test_decode_orc : decodeWord 0b01011001001_0000101_0000100_0000011#32 = .ok (.orc 3 4 5) := by decide
theorem test_decode_orhi : decodeWord 0b00000101_1000001100_0000100_0000011#32 = .ok (.orhi 3 4 524) := by decide
theorem test_decode_ori : decodeWord 0b00000100_1000001100_0000100_0000011#32 = .ok (.ori 3 4 524) := by decide
theorem test_decode_orx : decodeWord 0b00111110000_0000000_0000100_0000011#32 = .ok (.orx 3 4) := by decide
theorem test_decode_rchcnt : decodeWord 0b00000001111_0000000_0011101_0000011#32 = .ok (.rchcnt 3 29) := by decide
theorem test_decode_rdch : decodeWord 0b00000001101_0000000_0011101_0000011#32 = .ok (.rdch 3 29) := by decide
theorem test_decode_rot : decodeWord 0b00001011000_0000101_0000100_0000011#32 = .ok (.rot 3 4 5) := by decide
theorem test_decode_roth : decodeWord 0b00001011100_0000101_0000100_0000011#32 = .ok (.roth 3 4 5) := by decide
theorem test_decode_rothi : decodeWord 0b00001111100_1111000_0000100_0000011#32 = .ok (.rothi 3 4 120) := by decide
theorem test_decode_rothm : decodeWord 0b00001011101_0000101_0000100_0000011#32 = .ok (.rothm 3 4 5) := by decide
theorem test_decode_rothmi : decodeWord 0b00001111101_1111101_0000100_0000011#32 = .ok (.rothmi 3 4 125) := by decide
theorem test_decode_roti : decodeWord 0b00001111000_1111000_0000100_0000011#32 = .ok (.roti 3 4 120) := by decide
theorem test_decode_rotm : decodeWord 0b00001011001_0000101_0000100_0000011#32 = .ok (.rotm 3 4 5) := by decide
theorem test_decode_rotma : decodeWord 0b00001011010_0000101_0000100_0000011#32 = .ok (.rotma 3 4 5) := by decide
theorem test_decode_rotmah : decodeWord 0b00001011110_0000101_0000100_0000011#32 = .ok (.rotmah 3 4 5) := by decide
theorem test_decode_rotmahi : decodeWord 0b00001111110_1111101_0000100_0000011#32 = .ok (.rotmahi 3 4 125) := by decide
theorem test_decode_rotmai : decodeWord 0b00001111010_1111000_0000100_0000011#32 = .ok (.rotmai 3 4 120) := by decide
theorem test_decode_rotmi : decodeWord 0b00001111001_1111000_0000100_0000011#32 = .ok (.rotmi 3 4 120) := by decide
theorem test_decode_rotqbi : decodeWord 0b00111011000_0000101_0000100_0000011#32 = .ok (.rotqbi 3 4 5) := by decide
theorem test_decode_rotqbii : decodeWord 0b00111111000_0000101_0000100_0000011#32 = .ok (.rotqbii 3 4 5) := by decide
theorem test_decode_rotqby : decodeWord 0b00111011100_0000101_0000100_0000011#32 = .ok (.rotqby 3 4 5) := by decide
theorem test_decode_rotqbybi : decodeWord 0b00111001100_0000101_0000100_0000011#32 = .ok (.rotqbybi 3 4 5) := by decide
theorem test_decode_rotqbyi : decodeWord 0b00111111100_1111000_0000100_0000011#32 = .ok (.rotqbyi 3 4 120) := by decide
theorem test_decode_rotqmbi : decodeWord 0b00111011001_0000101_0000100_0000011#32 = .ok (.rotqmbi 3 4 5) := by decide
theorem test_decode_rotqmbii : decodeWord 0b00111111001_1110111_0000100_0000011#32 = .ok (.rotqmbii 3 4 119) := by decide
theorem test_decode_rotqmby : decodeWord 0b00111011101_0000101_0000100_0000011#32 = .ok (.rotqmby 3 4 5) := by decide
theorem test_decode_rotqmbybi : decodeWord 0b00111001101_0000101_0000100_0000011#32 = .ok (.rotqmbybi 3 4 5) := by decide
theorem test_decode_rotqmbyi : decodeWord 0b00111111101_1111101_0000100_0000011#32 = .ok (.rotqmbyi 3 4 125) := by decide
theorem test_decode_selb : decodeWord 0b1000_0000011_0000101_0000100_0000110#32 = .ok (.selb 3 4 5 6) := by decide
theorem test_decode_sf : decodeWord 0b00001000000_0000101_0000100_0000011#32 = .ok (.sf 3 4 5) := by decide
theorem test_decode_sfh : decodeWord 0b00001001000_0000101_0000100_0000011#32 = .ok (.sfh 3 4 5) := by decide
theorem test_decode_sfhi : decodeWord 0b00001101_1000001100_0000100_0000011#32 = .ok (.sfhi 3 4 524) := by decide
theorem test_decode_sfi : decodeWord 0b00001100_1000001100_0000100_0000011#32 = .ok (.sfi 3 4 524) := by decide
theorem test_decode_sfx : decodeWord 0b01101000001_0000101_0000100_0000011#32 = .ok (.sfx 3 4 5) := by decide
theorem test_decode_shl : decodeWord 0b00001011011_0000101_0000100_0000011#32 = .ok (.shl 3 4 5) := by decide
theorem test_decode_shlh : decodeWord 0b00001011111_0000101_0000100_0000011#32 = .ok (.shlh 3 4 5) := by decide
theorem test_decode_shlhi : decodeWord 0b00001111111_0010101_0000100_0000011#32 = .ok (.shlhi 3 4 21) := by decide
theorem test_decode_shli : decodeWord 0b00001111011_0101010_0000100_0000011#32 = .ok (.shli 3 4 42) := by decide
theorem test_decode_shlqbi : decodeWord 0b00111011011_0000101_0000100_0000011#32 = .ok (.shlqbi 3 4 5) := by decide
theorem test_decode_shlqbii : decodeWord 0b00111111011_0000101_0000100_0000011#32 = .ok (.shlqbii 3 4 5) := by decide
theorem test_decode_shlqby : decodeWord 0b00111011111_0000101_0000100_0000011#32 = .ok (.shlqby 3 4 5) := by decide
theorem test_decode_shlqbybi : decodeWord 0b00111001111_0000101_0000100_0000011#32 = .ok (.shlqbybi 3 4 5) := by decide
theorem test_decode_shlqbyi : decodeWord 0b00111111111_0010101_0000100_0000011#32 = .ok (.shlqbyi 3 4 21) := by decide
theorem test_decode_shufb : decodeWord 0b1011_0000011_0000101_0000100_0000110#32 = .ok (.shufb 3 4 5 6) := by decide
theorem test_decode_stop : decodeWord 0b00000000000_0000000_10101001011100#32 = .ok (.stop 10844) := by decide
theorem test_decode_stopd : decodeWord 0b00101000000_0000101_0000100_0000110#32 = .ok (.stopd 4 5 6) := by decide
theorem test_decode_stqa : decodeWord 0b001000001_1111101101110011_0000110#32 = .ok (.stqa 6 257484) := by decide
theorem test_decode_stqd : decodeWord 0b00100100_1011011101_0000100_0000110#32 = .ok (.stqd 6 11728 4) := by decide
theorem test_decode_stqr : decodeWord 0b001000111_1111101101110011_0000110#32 = .ok (.stqr 6 257484) := by decide
theorem test_decode_stqx : decodeWord 0b00101000100_0000101_0000100_0000110#32 = .ok (.stqx 6 4 5) := by decide
theorem test_decode_sumb : decodeWord 0b01001010011_0000101_0000100_0000011#32 = .ok (.sumb 3 4 5) := by decide
theorem test_decode_sync : decodeWord 0b000000000100_00000000000000000000#32 = .ok (.sync) := by decide
theorem test_decode_syncc : decodeWord 0b000000000101_00000000000000000000#32 = .ok (.syncc) := by decide
theorem test_decode_wrch : decodeWord 0b00100001101_0000000_0011101_0000100#32 = .ok (.wrch 29 4) := by decide
theorem test_decode_xor : decodeWord 0b01001000001_0000101_0000100_0000011#32 = .ok (.xor 3 4 5) := by decide
theorem test_decode_xorbi : decodeWord 0b01000110_1000001100_0000100_0000011#32 = .ok (.xorbi 3 4 524) := by decide
theorem test_decode_xorhi : decodeWord 0b01000101_1000001100_0000100_0000011#32 = .ok (.xorhi 3 4 524) := by decide
theorem test_decode_xori : decodeWord 0b01000100_1000001100_0000100_0000011#32 = .ok (.xori 3 4 524) := by decide
theorem test_decode_xsbh : decodeWord 0b01010110110_0000000_0000100_0000011#32 = .ok (.xsbh 3 4) := by decide
theorem test_decode_xshw : decodeWord 0b01010101110_0000000_0000100_0000011#32 = .ok (.xshw 3 4) := by decide
theorem test_decode_xswd : decodeWord 0b01010100110_0000000_0000100_0000011#32 = .ok (.xswd 3 4) := by decide

/-! Words of `95_test_vectors.md`. -/

theorem test_decode_V30_3 : decodeWord 0x16FFC203#32 = .ok (.andbi 3 4 (-1)) := by decide
theorem test_decode_V30_5 : decodeWord 0x3F3DC203#32 = .ok (.rotqmbii 3 4 (-9)) := by decide
theorem test_decode_V30_13 : decodeWord 0x34004203#32 = .ok (.lqd 3 16 4) := by decide
theorem test_decode_V30_25 : decodeWord 0x327FFF80#32 = .ok (.br (-4)) := by decide
theorem test_decode_V30_26 : decodeWord 0x10004004#32 = .ok (.hbra 16 0x200) := by decide
theorem test_decode_V48_3 : decodeWord 0x28014206#32 = .ok (.stopd 4 5 6) := by decide
theorem test_decode_V48_9 : decodeWord 0x01E00E83#32 = .ok (.rchcnt 3 29) := by decide

/-- A word with D and E both set is refused (R142 f). -/
theorem test_decode_both : decodeWord 0x350C0200#32 = .error (.bothInterruptBits 0x350C0200) := by decide
/-- A word of no row is no instruction (R128). -/
theorem test_decode_illegal : decodeWord 0xFFFFFFFF#32 = .ok (.fms 127 127 127 127) ∧
    decodeWord 0x00E00000#32 = .error (.illegalWord 0x00E00000) := by decide
/-- Bytes are read most significant first (R71), and the rest is handed back. -/
theorem test_decode_bytes : decode [0x32, 0x7F, 0xFF, 0x80, 0xAA] = .ok (.br (-4), [0xAA]) := by decide
theorem test_decode_short : decode [0x32, 0x7F, 0xFF] = .error .tooShort := by decide

/-! Results: the worked example of each rule (40_integer_arithmetic.md to 44_compare_halt.md). -/

theorem test_a :
    reg3 (exec (.a 3 4 5) (start [(4, quad 0x00000001 0xFFFFFFFF 0x7FFFFFFF 0x80000000), (5, quad 0x00000002 0x00000001 0x00000001 0x80000000)])) =
      some (quad 0x00000003 0x00000000 0x80000000 0x00000000) := by decide +kernel

theorem test_absdb :
    reg3 (exec (.absdb 3 4 5) (start [(4, quad 0x00FF1080 0x00000000 0x00000000 0x00000000), (5, quad 0xFF00307F 0x00000000 0x00000000 0x00000000)])) =
      some (quad 0xFFFF2001 0x00000000 0x00000000 0x00000000) := by decide +kernel

theorem test_addx :
    reg3 (exec (.addx 3 4 5) (start [(4, quad 0x00000001 0xFFFFFFFF 0x00000005 0x00000000), (5, quad 0x00000002 0x00000000 0x00000005 0x00000000), (3, quad 0x00000001 0x00000001 0xFFFFFFFE 0x00000003)])) =
      some (quad 0x00000004 0x00000000 0x0000000A 0x00000001) := by decide +kernel

theorem test_ah :
    reg3 (exec (.ah 3 4 5) (start [(4, quad 0xFFFF0001 0x7FFF8000 0x00000000 0x00000000), (5, quad 0x00010001 0x00018000 0x00000000 0x00000000)])) =
      some (quad 0x00000002 0x80000000 0x00000000 0x00000000) := by decide +kernel

theorem test_ahi :
    reg3 (exec (.ahi 3 4 1023) (start [(4, quad 0x00000001 0xFFFF8000 0x7FFF0000 0x00000000)])) =
      some (quad 0xFFFF0000 0xFFFE7FFF 0x7FFEFFFF 0xFFFFFFFF) := by decide +kernel

theorem test_ai :
    reg3 (exec (.ai 3 4 992) (start [(4, quad 0x00000020 0x00000000 0x00000100 0x80000000)])) =
      some (quad 0x00000000 0xFFFFFFE0 0x000000E0 0x7FFFFFE0) := by decide +kernel

theorem test_avgb :
    reg3 (exec (.avgb 3 4 5) (start [(4, quad 0x00FF0180 0x00000000 0x00000000 0x00000000), (5, quad 0x01FF027F 0x00000000 0x00000000 0x00000000)])) =
      some (quad 0x01FF0280 0x00000000 0x00000000 0x00000000) := by decide +kernel

theorem test_bg :
    reg3 (exec (.bg 3 4 5) (start [(4, quad 0x00000001 0x00000002 0xFFFFFFFF 0x00000000), (5, quad 0x00000002 0x00000001 0xFFFFFFFF 0x00000000)])) =
      some (quad 0x00000001 0x00000000 0x00000001 0x00000001) := by decide +kernel

theorem test_bgx :
    reg3 (exec (.bgx 3 4 5) (start [(4, quad 0x00000001 0x00000001 0x00000000 0x00000005), (5, quad 0x00000001 0x00000001 0x00000000 0x00000003), (3, quad 0x00000001 0x00000000 0x00000000 0x00000001)])) =
      some (quad 0x00000001 0x00000000 0x00000000 0x00000000) := by decide +kernel

theorem test_cg :
    reg3 (exec (.cg 3 4 5) (start [(4, quad 0xFFFFFFFF 0x7FFFFFFF 0x80000000 0x00000000), (5, quad 0x00000001 0x00000001 0x80000000 0x00000000)])) =
      some (quad 0x00000001 0x00000000 0x00000001 0x00000000) := by decide +kernel

theorem test_cgx :
    reg3 (exec (.cgx 3 4 5) (start [(4, quad 0xFFFFFFFF 0xFFFFFFFF 0x00000000 0x80000000), (5, quad 0x00000000 0x00000000 0x00000000 0x7FFFFFFF), (3, quad 0x00000001 0x00000000 0x00000001 0x00000001)])) =
      some (quad 0x00000001 0x00000000 0x00000000 0x00000001) := by decide +kernel

theorem test_clz :
    reg3 (exec (.clz 3 4) (start [(4, quad 0x00000000 0x00000001 0x80000000 0x00010000)])) =
      some (quad 0x00000020 0x0000001F 0x00000000 0x0000000F) := by decide +kernel

theorem test_cntb :
    reg3 (exec (.cntb 3 4) (start [(4, quad 0x00FF0F80 0x010307AA 0x00000000 0x00000000)])) =
      some (quad 0x00080401 0x01020304 0x00000000 0x00000000) := by decide +kernel

theorem test_mpy :
    reg3 (exec (.mpy 3 4 5) (start [(4, quad 0x00000003 0x1234FFFF 0x00008000 0xFFFF7FFF), (5, quad 0x00000004 0x00000002 0x00008000 0x00007FFF)])) =
      some (quad 0x0000000C 0xFFFFFFFE 0x40000000 0x3FFF0001) := by decide +kernel

theorem test_mpya :
    reg3 (exec (.mpya 3 4 5 6) (start [(4, quad 0x00000003 0x0000FFFF 0x00008000 0x00000002), (5, quad 0x00000004 0x00000002 0x00008000 0x00000003), (6, quad 0x0000000A 0x00000001 0xC0000000 0xFFFFFFFF)])) =
      some (quad 0x00000016 0xFFFFFFFF 0x00000000 0x00000005) := by decide +kernel

theorem test_mpyh :
    reg3 (exec (.mpyh 3 4 5) (start [(4, quad 0x00030000 0xFFFF0000 0x12345678 0x00000000), (5, quad 0x00000004 0x00000002 0x0000FFFF 0x00000000)])) =
      some (quad 0x000C0000 0xFFFE0000 0xEDCC0000 0x00000000) := by decide +kernel

theorem test_mpyhh :
    reg3 (exec (.mpyhh 3 4 5) (start [(4, quad 0x00030000 0xFFFF1234 0x80000000 0x7FFF0000), (5, quad 0x00040000 0x00020000 0x80000000 0x7FFF0000)])) =
      some (quad 0x0000000C 0xFFFFFFFE 0x40000000 0x3FFF0001) := by decide +kernel

theorem test_mpyhha :
    reg3 (exec (.mpyhha 3 4 5) (start [(4, quad 0x00030000 0xFFFF0000 0x00000000 0x00000000), (5, quad 0x00040000 0x00020000 0x00000000 0x00000000), (3, quad 0x00000064 0x00000001 0x00000007 0x00000000)])) =
      some (quad 0x00000070 0xFFFFFFFF 0x00000007 0x00000000) := by decide +kernel

theorem test_mpyhhau :
    reg3 (exec (.mpyhhau 3 4 5) (start [(4, quad 0xFFFF0000 0x00030000 0x00000000 0x00000000), (5, quad 0xFFFF0000 0x00040000 0x00000000 0x00000000), (3, quad 0x00020000 0x00000001 0x00000007 0x00000000)])) =
      some (quad 0x00000001 0x0000000D 0x00000007 0x00000000) := by decide +kernel

theorem test_mpyhhu :
    reg3 (exec (.mpyhhu 3 4 5) (start [(4, quad 0xFFFF0000 0x00030000 0x80000000 0x00000000), (5, quad 0xFFFF0000 0x00040000 0x00020000 0x00000000)])) =
      some (quad 0xFFFE0001 0x0000000C 0x00010000 0x00000000) := by decide +kernel

theorem test_mpyi :
    reg3 (exec (.mpyi 3 4 1022) (start [(4, quad 0x00000003 0x0000FFFF 0x00008000 0x00017FFF)])) =
      some (quad 0xFFFFFFFA 0x00000002 0x00010000 0xFFFF0002) := by decide +kernel

theorem test_mpyu :
    reg3 (exec (.mpyu 3 4 5) (start [(4, quad 0x0000FFFF 0x00000003 0x12348000 0x00000000), (5, quad 0x0000FFFF 0x00000004 0x00000002 0x00000000)])) =
      some (quad 0xFFFE0001 0x0000000C 0x00010000 0x00000000) := by decide +kernel

theorem test_mpyui :
    reg3 (exec (.mpyui 3 4 1023) (start [(4, quad 0x00000002 0x0000FFFF 0x00010003 0x00000000)])) =
      some (quad 0x0001FFFE 0xFFFE0001 0x0002FFFD 0x00000000) := by decide +kernel

theorem test_sf :
    reg3 (exec (.sf 3 4 5) (start [(4, quad 0x00000001 0x00000001 0x00000005 0x80000000), (5, quad 0x00000003 0x00000000 0x00000005 0x7FFFFFFF)])) =
      some (quad 0x00000002 0xFFFFFFFF 0x00000000 0xFFFFFFFF) := by decide +kernel

theorem test_sfh :
    reg3 (exec (.sfh 3 4 5) (start [(4, quad 0x00010001 0x00058000 0x00000000 0x00000000), (5, quad 0x00030000 0x00057FFF 0x00000000 0x00000000)])) =
      some (quad 0x0002FFFF 0x0000FFFF 0x00000000 0x00000000) := by decide +kernel

theorem test_sfhi :
    reg3 (exec (.sfhi 3 4 0) (start [(4, quad 0x0001FFFF 0x80000000 0x00050000 0x00000000)])) =
      some (quad 0xFFFF0001 0x80000000 0xFFFB0000 0x00000000) := by decide +kernel

theorem test_sfi :
    reg3 (exec (.sfi 3 4 0) (start [(4, quad 0x00000001 0xFFFFFFFF 0x80000000 0x0000000A)])) =
      some (quad 0xFFFFFFFF 0x00000001 0x80000000 0xFFFFFFF6) := by decide +kernel

theorem test_sfx :
    reg3 (exec (.sfx 3 4 5) (start [(4, quad 0x00000001 0x00000001 0x00000000 0x00000005), (5, quad 0x00000003 0x00000003 0x00000000 0x00000005), (3, quad 0x00000001 0x00000000 0x00000000 0xFFFFFFFE)])) =
      some (quad 0x00000002 0x00000001 0xFFFFFFFF 0xFFFFFFFF) := by decide +kernel

theorem test_sumb :
    reg3 (exec (.sumb 3 4 5) (start [(4, quad 0x01020304 0xFFFFFFFF 0x00000000 0x00000000), (5, quad 0x0A141E28 0x00000001 0x00000000 0x00000000)])) =
      some (quad 0x0064000A 0x000103FC 0x00000000 0x00000000) := by decide +kernel

theorem test_xsbh :
    reg3 (exec (.xsbh 3 4) (start [(4, quad 0x1280007F 0xFF0100FF 0x00000000 0x00000000)])) =
      some (quad 0xFF80007F 0x0001FFFF 0x00000000 0x00000000) := by decide +kernel

theorem test_xshw :
    reg3 (exec (.xshw 3 4) (start [(4, quad 0x12348000 0x00007FFF 0xFFFF0001 0x0000FFFF)])) =
      some (quad 0xFFFF8000 0x00007FFF 0x00000001 0xFFFFFFFF) := by decide +kernel

theorem test_xswd :
    reg3 (exec (.xswd 3 4) (start [(4, quad 0x12345678 0x80000000 0xFFFFFFFF 0x00000001)])) =
      some (quad 0xFFFFFFFF 0x80000000 0x00000000 0x00000001) := by decide +kernel

theorem test_and :
    reg3 (exec (.and 3 4 5) (start [(4, quad 0xFF00FF00 0xFFFFFFFF 0x00000000 0x12345678), (5, quad 0x0FF00FF0 0x00000000 0xFFFFFFFF 0xFFFF0000)])) =
      some (quad 0x0F000F00 0x00000000 0x00000000 0x12340000) := by decide +kernel

theorem test_andbi :
    reg3 (exec (.andbi 3 4 15) (start [(4, quad 0xF0F1F2F3 0xF4F5F6F7 0xF8F9FAFB 0xFCFDFEFF)])) =
      some (quad 0x00010203 0x04050607 0x08090A0B 0x0C0D0E0F) := by decide +kernel

theorem test_andc :
    reg3 (exec (.andc 3 4 5) (start [(4, quad 0xFFFFFFFF 0xFF00FF00 0x12345678 0x00000000), (5, quad 0x0000FFFF 0xFF000000 0x0000FFFF 0xFFFFFFFF)])) =
      some (quad 0xFFFF0000 0x0000FF00 0x12340000 0x00000000) := by decide +kernel

theorem test_andhi :
    reg3 (exec (.andhi 3 4 768) (start [(4, quad 0xFFFF1234 0x00FFFF00 0x00000000 0x00000000)])) =
      some (quad 0xFF001200 0x0000FF00 0x00000000 0x00000000) := by decide +kernel

theorem test_andi :
    reg3 (exec (.andi 3 4 1) (start [(4, quad 0xFFFFFFFF 0x12345678 0x00000003 0x80000001)])) =
      some (quad 0x00000001 0x00000000 0x00000001 0x00000001) := by decide +kernel

theorem test_eqv :
    reg3 (exec (.eqv 3 4 5) (start [(4, quad 0xFF00FF00 0x00000000 0xFFFFFFFF 0x12345678), (5, quad 0x0F0F0F0F 0x00000000 0x00000000 0x12345678)])) =
      some (quad 0x0FF00FF0 0xFFFFFFFF 0x00000000 0xFFFFFFFF) := by decide +kernel

theorem test_nand :
    reg3 (exec (.nand 3 4 5) (start [(4, quad 0xFF00FF00 0xFFFFFFFF 0x00000000 0x12345678), (5, quad 0x0FF00FF0 0xFFFFFFFF 0x00000000 0xFFFF0000)])) =
      some (quad 0xF0FFF0FF 0x00000000 0xFFFFFFFF 0xEDCBFFFF) := by decide +kernel

theorem test_nor :
    reg3 (exec (.nor 3 4 5) (start [(4, quad 0xFF00FF00 0x00000000 0xFFFFFFFF 0x12345678), (5, quad 0x0FF00FF0 0x00000000 0x00000000 0x0000FFFF)])) =
      some (quad 0x000F000F 0xFFFFFFFF 0x00000000 0xEDCB0000) := by decide +kernel

theorem test_or :
    reg3 (exec (.or 3 4 5) (start [(4, quad 0xFF00FF00 0x00000000 0xFFFFFFFF 0x12340000), (5, quad 0x0FF00FF0 0x00000000 0x00000000 0x00005678)])) =
      some (quad 0xFFF0FFF0 0x00000000 0xFFFFFFFF 0x12345678) := by decide +kernel

theorem test_orbi :
    reg3 (exec (.orbi 3 4 128) (start [(4, quad 0x00010203 0x04050607 0x08090A0B 0x0C0D0E0F)])) =
      some (quad 0x80818283 0x84858687 0x88898A8B 0x8C8D8E8F) := by decide +kernel

theorem test_orc :
    reg3 (exec (.orc 3 4 5) (start [(4, quad 0x00000000 0xFF000000 0x12345678 0x00000000), (5, quad 0x0000FFFF 0xFFFFFFFF 0xFFFFFFFF 0x00000000)])) =
      some (quad 0xFFFF0000 0xFF000000 0x12345678 0xFFFFFFFF) := by decide +kernel

theorem test_orhi :
    reg3 (exec (.orhi 3 4 257) (start [(4, quad 0x00001234 0x00FF8000 0x00000000 0x00000000)])) =
      some (quad 0x01011335 0x01FF8101 0x01010101 0x01010101) := by decide +kernel

theorem test_ori :
    reg3 (exec (.ori 3 4 0) (start [(4, quad 0x00000000 0x12345678 0xFFFF0000 0x00000001)])) =
      some (quad 0x00000000 0x12345678 0xFFFF0000 0x00000001) := by decide +kernel

theorem test_orx :
    reg3 (exec (.orx 3 4) (start [(4, quad 0x01000000 0x00020000 0x00000300 0x00000004)])) =
      some (quad 0x01020304 0x00000000 0x00000000 0x00000000) := by decide +kernel

theorem test_selb :
    reg3 (exec (.selb 3 4 5 6) (start [(4, quad 0xAAAAAAAA 0x11111111 0x12345678 0x00000000), (5, quad 0x55555555 0x22222222 0x9ABCDEF0 0xFFFFFFFF), (6, quad 0xFFFF0000 0x00000000 0xFFFFFFFF 0x0000000F)])) =
      some (quad 0x5555AAAA 0x11111111 0x9ABCDEF0 0x0000000F) := by decide +kernel

theorem test_xor :
    reg3 (exec (.xor 3 4 5) (start [(4, quad 0xFF00FF00 0x00000000 0xFFFFFFFF 0x12345678), (5, quad 0x0F0F0F0F 0x00000000 0xFFFFFFFF 0x0000FFFF)])) =
      some (quad 0xF00FF00F 0x00000000 0x00000000 0x1234A987) := by decide +kernel

theorem test_xorbi :
    reg3 (exec (.xorbi 3 4 255) (start [(4, quad 0x00010203 0x04050607 0x08090A0B 0x0C0D0E0F)])) =
      some (quad 0xFFFEFDFC 0xFBFAF9F8 0xF7F6F5F4 0xF3F2F1F0) := by decide +kernel

theorem test_xorhi :
    reg3 (exec (.xorhi 3 4 1023) (start [(4, quad 0x0000FFFF 0x123400FF 0x00000000 0x00000000)])) =
      some (quad 0xFFFF0000 0xEDCBFF00 0xFFFFFFFF 0xFFFFFFFF) := by decide +kernel

theorem test_xori :
    reg3 (exec (.xori 3 4 341) (start [(4, quad 0x00000000 0xFFFFFFFF 0x12345678 0x00000001)])) =
      some (quad 0x00000155 0xFFFFFEAA 0x1234572D 0x00000154) := by decide +kernel

theorem test_cbd :
    reg3 (exec (.cbd 3 5 4) (start [(4, quad 0x00001000 0x0000DEAD 0x0000BEEF 0x00000000)])) =
      some (quad 0x10111213 0x14031617 0x18191A1B 0x1C1D1E1F) := by decide +kernel

theorem test_cbx :
    reg3 (exec (.cbx 3 4 5) (start [(4, quad 0x00001000 0x00000000 0x00000000 0x00000000), (5, quad 0x0000000A 0x00000000 0x00000000 0x00000000)])) =
      some (quad 0x10111213 0x14151617 0x1819031B 0x1C1D1E1F) := by decide +kernel

theorem test_cdd :
    reg3 (exec (.cdd 3 5 4) (start [(4, quad 0x00001000 0x0000DEAD 0x0000BEEF 0x00000000)])) =
      some (quad 0x00010203 0x04050607 0x18191A1B 0x1C1D1E1F) := by decide +kernel

theorem test_cdx :
    reg3 (exec (.cdx 3 4 5) (start [(4, quad 0x00001000 0x00000000 0x00000000 0x00000000), (5, quad 0x0000000A 0x00000000 0x00000000 0x00000000)])) =
      some (quad 0x10111213 0x14151617 0x00010203 0x04050607) := by decide +kernel

theorem test_chd :
    reg3 (exec (.chd 3 5 4) (start [(4, quad 0x00001000 0x0000DEAD 0x0000BEEF 0x00000000)])) =
      some (quad 0x10111213 0x02031617 0x18191A1B 0x1C1D1E1F) := by decide +kernel

theorem test_chx :
    reg3 (exec (.chx 3 4 5) (start [(4, quad 0x00001000 0x00000000 0x00000000 0x00000000), (5, quad 0x0000000A 0x00000000 0x00000000 0x00000000)])) =
      some (quad 0x10111213 0x14151617 0x18190203 0x1C1D1E1F) := by decide +kernel

theorem test_cwd :
    reg3 (exec (.cwd 3 5 4) (start [(4, quad 0x00001000 0x0000DEAD 0x0000BEEF 0x00000000)])) =
      some (quad 0x10111213 0x00010203 0x18191A1B 0x1C1D1E1F) := by decide +kernel

theorem test_cwx :
    reg3 (exec (.cwx 3 4 5) (start [(4, quad 0x00001000 0x00000000 0x00000000 0x00000000), (5, quad 0x0000000A 0x00000000 0x00000000 0x00000000)])) =
      some (quad 0x10111213 0x14151617 0x00010203 0x1C1D1E1F) := by decide +kernel

theorem test_fsm :
    reg3 (exec (.fsm 3 4) (start [(4, quad 0xFFFFFFFA 0x00000001 0x00000002 0x00000003)])) =
      some (quad 0xFFFFFFFF 0x00000000 0xFFFFFFFF 0x00000000) := by decide +kernel

theorem test_fsmb :
    reg3 (exec (.fsmb 3 4) (start [(4, quad 0xABCD8001 0x00000000 0x00000000 0x00000000)])) =
      some (quad 0xFF000000 0x00000000 0x00000000 0x000000FF) := by decide +kernel

theorem test_fsmbi :
    reg3 (exec (.fsmbi 3 61455) (start [])) =
      some (quad 0xFFFFFFFF 0x00000000 0x00000000 0xFFFFFFFF) := by decide +kernel

theorem test_fsmh :
    reg3 (exec (.fsmh 3 4) (start [(4, quad 0x00000081 0x00000000 0x00000000 0x00000000)])) =
      some (quad 0xFFFF0000 0x00000000 0x00000000 0x0000FFFF) := by decide +kernel

theorem test_gb :
    reg3 (exec (.gb 3 4) (start [(4, quad 0x00000001 0xFFFFFFFE 0x80000001 0x00000003)])) =
      some (quad 0x0000000B 0x00000000 0x00000000 0x00000000) := by decide +kernel

theorem test_gbb :
    reg3 (exec (.gbb 3 4) (start [(4, quad 0x0100FFFE 0x01010101 0x00000000 0x00000003)])) =
      some (quad 0x0000AF01 0x00000000 0x00000000 0x00000000) := by decide +kernel

theorem test_gbh :
    reg3 (exec (.gbh 3 4) (start [(4, quad 0x00010000 0xFFFFFFFE 0x00000000 0x00000001)])) =
      some (quad 0x000000A1 0x00000000 0x00000000 0x00000000) := by decide +kernel

theorem test_il :
    reg3 (exec (.il 3 65534) (start [])) =
      some (quad 0xFFFFFFFE 0xFFFFFFFE 0xFFFFFFFE 0xFFFFFFFE) := by decide +kernel

theorem test_ila :
    reg3 (exec (.ila 3 262143) (start [])) =
      some (quad 0x0003FFFF 0x0003FFFF 0x0003FFFF 0x0003FFFF) := by decide +kernel

theorem test_ilh :
    reg3 (exec (.ilh 3 4660) (start [])) =
      some (quad 0x12341234 0x12341234 0x12341234 0x12341234) := by decide +kernel

theorem test_ilhu :
    reg3 (exec (.ilhu 3 4660) (start [])) =
      some (quad 0x12340000 0x12340000 0x12340000 0x12340000) := by decide +kernel

theorem test_iohl :
    reg3 (exec (.iohl 3 22136) (start [(3, quad 0x12340000 0x12340000 0x12340000 0x12340000)])) =
      some (quad 0x12345678 0x12345678 0x12345678 0x12345678) := by decide +kernel

theorem test_shufb :
    reg3 (exec (.shufb 3 4 5 6) (start [(4, quad 0xA0A1A2A3 0xA4A5A6A7 0xA8A9AAAB 0xACADAEAF), (5, quad 0xB0B1B2B3 0xB4B5B6B7 0xB8B9BABB 0xBCBDBEBF), (6, quad 0x00100F1F 0x80C0E003 0x13239FDF 0xFF01111E)])) =
      some (quad 0xA0B0AFBF 0x00FF80A3 0xB3A300FF 0x80A1B1BE) := by decide +kernel

theorem test_rot :
    reg3 (exec (.rot 3 4 5) (start [(4, quad 0x80000001 0x12345678 0x0000FFFF 0x00000001), (5, quad 0x00000001 0x00000008 0x00000024 0xFFFFFFFF)])) =
      some (quad 0x00000003 0x34567812 0x000FFFF0 0x80000000) := by decide +kernel

theorem test_roth :
    reg3 (exec (.roth 3 4 5) (start [(4, quad 0x80011234 0x00FF0001 0x00000000 0x00000000), (5, quad 0x00010004 0x0014FFFF 0x00000000 0x00000000)])) =
      some (quad 0x00032341 0x0FF08000 0x00000000 0x00000000) := by decide +kernel

theorem test_rothi :
    reg3 (exec (.rothi 3 4 124) (start [(4, quad 0x80011234 0x00FF0001 0x00000000 0x00000000)])) =
      some (quad 0x18004123 0xF00F1000 0x00000000 0x00000000) := by decide +kernel

theorem test_rothm :
    reg3 (exec (.rothm 3 4 5) (start [(4, quad 0x8000FFFF 0x12348000 0x00000000 0x00000000), (5, quad 0xFFFFFFFC 0x00000001 0x00000000 0x00000000)])) =
      some (quad 0x40000FFF 0x12340000 0x00000000 0x00000000) := by decide +kernel

theorem test_rothmi :
    reg3 (exec (.rothmi 3 4 125) (start [(4, quad 0x8000FFFF 0x12340008 0x00000000 0x00000000)])) =
      some (quad 0x10001FFF 0x02460001 0x00000000 0x00000000) := by decide +kernel

theorem test_roti :
    reg3 (exec (.roti 3 4 120) (start [(4, quad 0x80000001 0x12345678 0x0000FFFF 0x00000001)])) =
      some (quad 0x01800000 0x78123456 0xFF0000FF 0x01000000) := by decide +kernel

theorem test_rotm :
    reg3 (exec (.rotm 3 4 5) (start [(4, quad 0x80000000 0xFFFFFFFF 0x12345678 0x80000000), (5, quad 0xFFFFFFFF 0xFFFFFFF0 0x00000000 0x00000001)])) =
      some (quad 0x40000000 0x0000FFFF 0x12345678 0x00000000) := by decide +kernel

theorem test_rotma :
    reg3 (exec (.rotma 3 4 5) (start [(4, quad 0x80000000 0x7FFFFFFF 0xFFFFFFF0 0x80000000), (5, quad 0xFFFFFFFF 0xFFFFFFFC 0xFFFFFFFE 0x00000001)])) =
      some (quad 0xC0000000 0x07FFFFFF 0xFFFFFFFC 0xFFFFFFFF) := by decide +kernel

theorem test_rotmah :
    reg3 (exec (.rotmah 3 4 5) (start [(4, quad 0x80007FFF 0xFFF08000 0x00000000 0x00000000), (5, quad 0xFFFFFFFC 0xFFFE0001 0x00000000 0x00000000)])) =
      some (quad 0xC00007FF 0xFFFCFFFF 0x00000000 0x00000000) := by decide +kernel

theorem test_rotmahi :
    reg3 (exec (.rotmahi 3 4 125) (start [(4, quad 0x80007FFF 0xFFF00008 0x00000000 0x00000000)])) =
      some (quad 0xF0000FFF 0xFFFE0001 0x00000000 0x00000000) := by decide +kernel

theorem test_rotmai :
    reg3 (exec (.rotmai 3 4 124) (start [(4, quad 0x80000000 0x7FFFFFFF 0xFFFFFFF0 0x00000100)])) =
      some (quad 0xF8000000 0x07FFFFFF 0xFFFFFFFF 0x00000010) := by decide +kernel

theorem test_rotmi :
    reg3 (exec (.rotmi 3 4 124) (start [(4, quad 0x80000000 0xFFFFFFFF 0x12345678 0x00000010)])) =
      some (quad 0x08000000 0x0FFFFFFF 0x01234567 0x00000001) := by decide +kernel

theorem test_rotqbi :
    reg3 (exec (.rotqbi 3 4 5) (start [(4, quad 0x80000000 0x00000000 0x00000000 0x00000001), (5, quad 0xFFFFFFF9 0x00000007 0x00000007 0x00000007)])) =
      some (quad 0x00000000 0x00000000 0x00000000 0x00000003) := by decide +kernel

theorem test_rotqbii :
    reg3 (exec (.rotqbii 3 4 1) (start [(4, quad 0x80000000 0x00000000 0x00000000 0x00000001)])) =
      some (quad 0x00000000 0x00000000 0x00000000 0x00000003) := by decide +kernel

theorem test_rotqby :
    reg3 (exec (.rotqby 3 4 5) (start [(4, quad 0x00010203 0x04050607 0x08090A0B 0x0C0D0E0F), (5, quad 0x00001003 0x00000000 0x00000000 0x00000000)])) =
      some (quad 0x03040506 0x0708090A 0x0B0C0D0E 0x0F000102) := by decide +kernel

theorem test_rotqbybi :
    reg3 (exec (.rotqbybi 3 4 5) (start [(4, quad 0x00010203 0x04050607 0x08090A0B 0x0C0D0E0F), (5, quad 0x0000001C 0x00000000 0x00000000 0x00000000)])) =
      some (quad 0x03040506 0x0708090A 0x0B0C0D0E 0x0F000102) := by decide +kernel

theorem test_rotqbyi :
    reg3 (exec (.rotqbyi 3 4 124) (start [(4, quad 0x00010203 0x04050607 0x08090A0B 0x0C0D0E0F)])) =
      some (quad 0x0C0D0E0F 0x00010203 0x04050607 0x08090A0B) := by decide +kernel

theorem test_rotqmbi :
    reg3 (exec (.rotqmbi 3 4 5) (start [(4, quad 0x80000000 0x00000000 0x00000000 0x00000001), (5, quad 0xFFFFFFFF 0x00000000 0x00000000 0x00000000)])) =
      some (quad 0x40000000 0x00000000 0x00000000 0x00000000) := by decide +kernel

theorem test_rotqmbii :
    reg3 (exec (.rotqmbii 3 4 125) (start [(4, quad 0x80000000 0x00000000 0x00000000 0x00000008)])) =
      some (quad 0x10000000 0x00000000 0x00000000 0x00000001) := by decide +kernel

theorem test_rotqmby :
    reg3 (exec (.rotqmby 3 4 5) (start [(4, quad 0x01020304 0x05060708 0x090A0B0C 0x0D0E0F10), (5, quad 0xFFFFFFFE 0x00000000 0x00000000 0x00000000)])) =
      some (quad 0x00000102 0x03040506 0x0708090A 0x0B0C0D0E) := by decide +kernel

theorem test_rotqmbybi :
    reg3 (exec (.rotqmbybi 3 4 5) (start [(4, quad 0x01020304 0x05060708 0x090A0B0C 0x0D0E0F10), (5, quad 0xFFFFFFE8 0x00000000 0x00000000 0x00000000)])) =
      some (quad 0x00000001 0x02030405 0x06070809 0x0A0B0C0D) := by decide +kernel

theorem test_rotqmbyi :
    reg3 (exec (.rotqmbyi 3 4 116) (start [(4, quad 0x01020304 0x05060708 0x090A0B0C 0x0D0E0F10)])) =
      some (quad 0x00000000 0x00000000 0x00000000 0x01020304) := by decide +kernel

theorem test_shl :
    reg3 (exec (.shl 3 4 5) (start [(4, quad 0x00000001 0xFFFFFFFF 0x12345678 0x00000001), (5, quad 0x0000001F 0x00000004 0x00000020 0x00000040)])) =
      some (quad 0x80000000 0xFFFFFFF0 0x00000000 0x00000001) := by decide +kernel

theorem test_shlh :
    reg3 (exec (.shlh 3 4 5) (start [(4, quad 0x0001FFFF 0x12340001 0x00000000 0x00000000), (5, quad 0x000F0004 0x00100020 0x00000000 0x00000000)])) =
      some (quad 0x8000FFF0 0x00000001 0x00000000 0x00000000) := by decide +kernel

theorem test_shlhi :
    reg3 (exec (.shlhi 3 4 4) (start [(4, quad 0x0001FFFF 0x12348001 0x00000000 0x00000000)])) =
      some (quad 0x0010FFF0 0x23400010 0x00000000 0x00000000) := by decide +kernel

theorem test_shli :
    reg3 (exec (.shli 3 4 4) (start [(4, quad 0x00000001 0xFFFFFFFF 0x12345678 0x80000001)])) =
      some (quad 0x00000010 0xFFFFFFF0 0x23456780 0x00000010) := by decide +kernel

theorem test_shlqbi :
    reg3 (exec (.shlqbi 3 4 5) (start [(4, quad 0x80000000 0x80000000 0x00000000 0x80000001), (5, quad 0x00000001 0x00000000 0x00000000 0x00000000)])) =
      some (quad 0x00000001 0x00000000 0x00000001 0x00000002) := by decide +kernel

theorem test_shlqbii :
    reg3 (exec (.shlqbii 3 4 4) (start [(4, quad 0x80000000 0x80000000 0x00000000 0x80000001)])) =
      some (quad 0x00000008 0x00000000 0x00000008 0x00000010) := by decide +kernel

theorem test_shlqby :
    reg3 (exec (.shlqby 3 4 5) (start [(4, quad 0x01020304 0x05060708 0x090A0B0C 0x0D0E0F10), (5, quad 0x00000003 0x00000000 0x00000000 0x00000000)])) =
      some (quad 0x04050607 0x08090A0B 0x0C0D0E0F 0x10000000) := by decide +kernel

theorem test_shlqbybi :
    reg3 (exec (.shlqbybi 3 4 5) (start [(4, quad 0x01020304 0x05060708 0x090A0B0C 0x0D0E0F10), (5, quad 0x0000001C 0x00000000 0x00000000 0x00000000)])) =
      some (quad 0x04050607 0x08090A0B 0x0C0D0E0F 0x10000000) := by decide +kernel

theorem test_shlqbyi :
    reg3 (exec (.shlqbyi 3 4 12) (start [(4, quad 0x01020304 0x05060708 0x090A0B0C 0x0D0E0F10)])) =
      some (quad 0x0D0E0F10 0x00000000 0x00000000 0x00000000) := by decide +kernel

theorem test_ceq :
    reg3 (exec (.ceq 3 4 5) (start [(4, quad 0x00000005 0xFFFFFFFF 0x80000000 0x7FFFFFFF), (5, quad 0x00000005 0x00000001 0x7FFFFFFF 0x80000000)])) =
      some (quad 0xFFFFFFFF 0x00000000 0x00000000 0x00000000) := by decide +kernel

theorem test_ceqb :
    reg3 (exec (.ceqb 3 4 5) (start [(4, quad 0x05FF807F 0x00000000 0x00000000 0x00000000), (5, quad 0x05017F80 0x00010000 0x00000000 0x00000000)])) =
      some (quad 0xFF000000 0xFF00FFFF 0xFFFFFFFF 0xFFFFFFFF) := by decide +kernel

theorem test_ceqbi :
    reg3 (exec (.ceqbi 3 4 5) (start [(4, quad 0x05FF807F 0x00000000 0x00000000 0x00000000)])) =
      some (quad 0xFF000000 0x00000000 0x00000000 0x00000000) := by decide +kernel

theorem test_ceqh :
    reg3 (exec (.ceqh 3 4 5) (start [(4, quad 0x0005FFFF 0x80007FFF 0x00000000 0x00000000), (5, quad 0x00050001 0x7FFF8000 0x00000001 0x00000000)])) =
      some (quad 0xFFFF0000 0x00000000 0xFFFF0000 0xFFFFFFFF) := by decide +kernel

theorem test_ceqhi :
    reg3 (exec (.ceqhi 3 4 5) (start [(4, quad 0x0005FFFF 0x80007FFF 0x00000000 0x00000000)])) =
      some (quad 0xFFFF0000 0x00000000 0x00000000 0x00000000) := by decide +kernel

theorem test_ceqi :
    reg3 (exec (.ceqi 3 4 5) (start [(4, quad 0x00000005 0xFFFFFFFF 0x80000000 0x7FFFFFFF)])) =
      some (quad 0xFFFFFFFF 0x00000000 0x00000000 0x00000000) := by decide +kernel

theorem test_cgt :
    reg3 (exec (.cgt 3 4 5) (start [(4, quad 0x00000005 0xFFFFFFFF 0x80000000 0x7FFFFFFF), (5, quad 0x00000005 0x00000001 0x7FFFFFFF 0x80000000)])) =
      some (quad 0x00000000 0x00000000 0x00000000 0xFFFFFFFF) := by decide +kernel

theorem test_cgtb :
    reg3 (exec (.cgtb 3 4 5) (start [(4, quad 0x05FF807F 0x00000000 0x00000000 0x00000000), (5, quad 0x05017F80 0x00010000 0x00000000 0x00000000)])) =
      some (quad 0x000000FF 0x00000000 0x00000000 0x00000000) := by decide +kernel

theorem test_cgtbi :
    reg3 (exec (.cgtbi 3 4 1023) (start [(4, quad 0x05FF807F 0x00000000 0x00000000 0x00000000)])) =
      some (quad 0xFF0000FF 0xFFFFFFFF 0xFFFFFFFF 0xFFFFFFFF) := by decide +kernel

theorem test_cgth :
    reg3 (exec (.cgth 3 4 5) (start [(4, quad 0x0005FFFF 0x80007FFF 0x00000000 0x00000000), (5, quad 0x00050001 0x7FFF8000 0x00000001 0x00000000)])) =
      some (quad 0x00000000 0x0000FFFF 0x00000000 0x00000000) := by decide +kernel

theorem test_cgthi :
    reg3 (exec (.cgthi 3 4 1023) (start [(4, quad 0x0005FFFF 0x80007FFF 0x00000000 0x00000000)])) =
      some (quad 0xFFFF0000 0x0000FFFF 0xFFFFFFFF 0xFFFFFFFF) := by decide +kernel

theorem test_cgti :
    reg3 (exec (.cgti 3 4 1023) (start [(4, quad 0x00000005 0xFFFFFFFF 0x80000000 0x7FFFFFFF)])) =
      some (quad 0xFFFFFFFF 0x00000000 0x00000000 0xFFFFFFFF) := by decide +kernel

theorem test_clgt :
    reg3 (exec (.clgt 3 4 5) (start [(4, quad 0x00000005 0xFFFFFFFF 0x80000000 0x7FFFFFFF), (5, quad 0x00000005 0x00000001 0x7FFFFFFF 0x80000000)])) =
      some (quad 0x00000000 0xFFFFFFFF 0xFFFFFFFF 0x00000000) := by decide +kernel

theorem test_clgtb :
    reg3 (exec (.clgtb 3 4 5) (start [(4, quad 0x05FF807F 0x00000000 0x00000000 0x00000000), (5, quad 0x05017F80 0x00010000 0x00000000 0x00000000)])) =
      some (quad 0x00FFFF00 0x00000000 0x00000000 0x00000000) := by decide +kernel

theorem test_clgtbi :
    reg3 (exec (.clgtbi 3 4 1023) (start [(4, quad 0x05FF807F 0x00000000 0x00000000 0x00000000)])) =
      some (quad 0x00000000 0x00000000 0x00000000 0x00000000) := by decide +kernel

theorem test_clgth :
    reg3 (exec (.clgth 3 4 5) (start [(4, quad 0x0005FFFF 0x80007FFF 0x00000000 0x00000000), (5, quad 0x00050001 0x7FFF8000 0x00000001 0x00000000)])) =
      some (quad 0x0000FFFF 0xFFFF0000 0x00000000 0x00000000) := by decide +kernel

theorem test_clgthi :
    reg3 (exec (.clgthi 3 4 1023) (start [(4, quad 0x0005FFFF 0x80007FFF 0x00000000 0x00000000)])) =
      some (quad 0x00000000 0x00000000 0x00000000 0x00000000) := by decide +kernel

theorem test_clgti :
    reg3 (exec (.clgti 3 4 1023) (start [(4, quad 0x00000005 0xFFFFFFFF 0x80000000 0x7FFFFFFF)])) =
      some (quad 0x00000000 0x00000000 0x00000000 0x00000000) := by decide +kernel

/-- The example of R224 under either setting of `MPYS_HALVES`, words 0, 1 and 3. -/
theorem test_mpys (h : Config.Halves) :
    productUpper h 0x40004000 0x40004000 = 0x00001000 ∧ productUpper h 0xFFFFFFFF 0x00010001 = 0xFFFFFFFF ∧
      productUpper h 0x80008000 0x80008000 = 0x00004000 := by
  cases h <;> decide

/-! Conditional halts: the examples of R350 to R355. -/

/-- Run state and pc after a halt instruction. -/
def halts (o : Outcome) : Option (RunState × Word) := seen o fun t => (t.run, t.pc)

/-- Word element 0 of registers 4 and 5. -/
def two (a b : Word) : State := start [(4, inWord0 a), (5, inWord0 b)]

theorem test_heq : halts (exec (.heq 0 4 5) (two 7 7)) = some (.halted, 0x100) ∧
    halts (exec (.heq 0 4 5) (two 7 8)) = some (.running, 0x104) := by decide +kernel
theorem test_heqi : halts (exec (.heqi 0 4 (-1)) (two 0xFFFFFFFF 0)) = some (.halted, 0x100) ∧
    halts (exec (.heqi 0 4 (-1)) (two 0x3FF 0)) = some (.running, 0x104) := by decide +kernel
theorem test_hgt : halts (exec (.hgt 0 4 5) (two 1 0xFFFFFFFF)) = some (.halted, 0x100) ∧
    halts (exec (.hgt 0 5 4) (two 1 0xFFFFFFFF)) = some (.running, 0x104) := by decide +kernel
theorem test_hgti : halts (exec (.hgti 0 4 (-1)) (two 0 0)) = some (.halted, 0x100) ∧
    halts (exec (.hgti 0 4 (-1)) (two 0x80000000 0)) = some (.running, 0x104) := by decide +kernel
theorem test_hlgt : halts (exec (.hlgt 0 4 5) (two 0xFFFFFFFF 1)) = some (.halted, 0x100) ∧
    halts (exec (.hlgt 0 5 4) (two 0xFFFFFFFF 1)) = some (.running, 0x104) := by decide +kernel
theorem test_hlgti : halts (exec (.hlgti 0 4 16) (two 0x11 0)) = some (.halted, 0x100) ∧
    halts (exec (.hlgti 0 4 (-1)) (two 0xFFFFFFFF 0)) = some (.running, 0x104) := by decide +kernel

/-! Branches: the examples of R364 to R399.  Register 4 holds the target, register 6 the condition. -/

/-- Registers 4 and 6 by their word element 0, and IE. -/
def branchState (t c : Word) (ie : Bool) : State := { start [(4, inWord0 t), (6, inWord0 c)] with ie := ie }

theorem test_bi : control (exec (.bi 4) (branchState 0x207 0 true)) = some (0x204, true) := by decide +kernel
theorem test_bid : control (exec (.bid 4) (branchState 0x207 0 true)) = some (0x204, false) := by decide +kernel
theorem test_bie : control (exec (.bie 4) (branchState 0x207 0 false)) = some (0x204, true) := by decide +kernel
theorem test_bihnz : control (exec (.bihnz 6 4) (branchState 0x200 1 true)) = some (0x200, true) ∧
    control (exec (.bihnz 6 4) (branchState 0x200 0x10000 true)) = some (0x104, true) := by decide +kernel
theorem test_bihnzd : control (exec (.bihnzd 6 4) (branchState 0x200 1 true)) = some (0x200, false) ∧
    control (exec (.bihnzd 6 4) (branchState 0x200 0 true)) = some (0x104, true) := by decide +kernel
theorem test_bihnze : control (exec (.bihnze 6 4) (branchState 0x200 1 false)) = some (0x200, true) ∧
    control (exec (.bihnze 6 4) (branchState 0x200 0x10000 false)) = some (0x104, false) := by decide +kernel
theorem test_bihz : control (exec (.bihz 6 4) (branchState 0x200 0 true)) = some (0x200, true) ∧
    control (exec (.bihz 6 4) (branchState 0x200 1 true)) = some (0x104, true) := by decide +kernel
theorem test_bihzd : control (exec (.bihzd 6 4) (branchState 0x200 0 true)) = some (0x200, false) ∧
    control (exec (.bihzd 6 4) (branchState 0x200 1 true)) = some (0x104, true) := by decide +kernel
theorem test_bihze : control (exec (.bihze 6 4) (branchState 0x200 0xFFFF0000 false)) = some (0x200, true) ∧
    control (exec (.bihze 6 4) (branchState 0x200 1 false)) = some (0x104, false) := by decide +kernel
theorem test_binz : control (exec (.binz 6 4) (branchState 0x203 0x80000000 true)) = some (0x200, true) ∧
    control (exec (.binz 6 4) (branchState 0x203 0 true)) = some (0x104, true) := by decide +kernel
theorem test_binzd : control (exec (.binzd 6 4) (branchState 0x200 1 true)) = some (0x200, false) ∧
    control (exec (.binzd 6 4) (branchState 0x200 0 true)) = some (0x104, true) := by decide +kernel
theorem test_binze : control (exec (.binze 6 4) (branchState 0x200 1 false)) = some (0x200, true) ∧
    control (exec (.binze 6 4) (branchState 0x200 0 false)) = some (0x104, false) := by decide +kernel
theorem test_biz : control (exec (.biz 6 4) (branchState 0x200 0 true)) = some (0x200, true) ∧
    control (exec (.biz 6 4) (branchState 0x200 0xFFFF0000 true)) = some (0x104, true) := by decide +kernel
theorem test_bizd : control (exec (.bizd 6 4) (branchState 0x200 0 true)) = some (0x200, false) ∧
    control (exec (.bizd 6 4) (branchState 0x200 1 true)) = some (0x104, true) := by decide +kernel
theorem test_bize : control (exec (.bize 6 4) (branchState 0x200 0 false)) = some (0x200, true) ∧
    control (exec (.bize 6 4) (branchState 0x200 1 false)) = some (0x104, false) := by decide +kernel

/-- pc, IE and register 3 of the next state. -/
def linked (o : Outcome) : Option (Word × Bool × Quad) := seen o fun t => (t.pc, t.ie, t.reg 3)

/-- A state with an enabled event pending. -/
def withEvent (s : State) : State := { s with eventPending := 4, eventMask := 6 }

theorem test_bisl : linked (exec (.bisl 3 4) (branchState 0x400 0 true)) = some (0x400, true, quad 0x104 0 0 0) := by
  decide +kernel
theorem test_bisl_target_read_first : seen (exec (.bisl 4 4) (branchState 0x300 0 true)) (fun t => (t.pc, t.reg 4)) =
    some (0x300, quad 0x104 0 0 0) := by decide +kernel
theorem test_bisld : linked (exec (.bisld 3 4) (branchState 0x400 0 true)) = some (0x400, false, quad 0x104 0 0 0) := by
  decide +kernel
theorem test_bisle : linked (exec (.bisle 3 4) (branchState 0x400 0 false)) = some (0x400, true, quad 0x104 0 0 0) := by
  decide +kernel
theorem test_bisled : linked (exec (.bisled 3 4) (branchState 0x300 0 true)) = some (0x104, true, quad 0x104 0 0 0) ∧
    linked (exec (.bisled 3 4) (withEvent (branchState 0x300 0 true))) = some (0x300, true, quad 0x104 0 0 0) := by
  decide +kernel
theorem test_bisledd : linked (exec (.bisledd 3 4) (branchState 0x300 0 true)) = some (0x104, true, quad 0x104 0 0 0) ∧
    linked (exec (.bisledd 3 4) (withEvent (branchState 0x300 0 true))) = some (0x300, false, quad 0x104 0 0 0) := by
  decide +kernel
theorem test_bislede : linked (exec (.bislede 3 4) (branchState 0x300 0 false)) = some (0x104, false, quad 0x104 0 0 0) ∧
    linked (exec (.bislede 3 4) (withEvent (branchState 0x300 0 false))) = some (0x300, true, quad 0x104 0 0 0) := by
  decide +kernel
theorem test_br : control (exec (.br (-4)) (start [])) = some (0xFC, false) ∧
    control (exec (.br 8) { start [] with pc := 0x3FFFC }) = some (4, false) := by decide +kernel
theorem test_bra : control (exec (.bra (-4)) (start [])) = some (0x3FFFC, false) := by decide +kernel
theorem test_brasl : linked (exec (.brasl 3 0x400) (start [])) = some (0x400, false, quad 0x104 0 0 0) := by decide +kernel
theorem test_brhnz : control (exec (.brhnz 6 16) (branchState 0 1 true)) = some (0x110, true) ∧
    control (exec (.brhnz 6 16) (branchState 0 0x10000 true)) = some (0x104, true) := by decide +kernel
theorem test_brhz : control (exec (.brhz 6 16) (branchState 0 0xFFFF0000 true)) = some (0x110, true) ∧
    control (exec (.brhz 6 16) (branchState 0 1 true)) = some (0x104, true) := by decide +kernel
theorem test_brnz : control (exec (.brnz 6 16) (branchState 0 1 true)) = some (0x110, true) ∧
    control (exec (.brnz 6 16) (branchState 0 0 true)) = some (0x104, true) := by decide +kernel
theorem test_brsl : linked (exec (.brsl 3 0x20) { start [] with pc := 0x3FFFC }) = some (0x1C, false, quad 0 0 0 0) := by
  decide +kernel
theorem test_brz : control (exec (.brz 6 16) (branchState 0 0 true)) = some (0x110, true) ∧
    control (exec (.brz 6 16) (branchState 0 0xFFFF0000 true)) = some (0x104, true) := by decide +kernel
theorem test_hbr : seen (exec (.hbr 12 4) (start [])) id = some { start [] with pc := 0x104 } := by decide +kernel
theorem test_hbra : seen (exec (.hbra 8 0x400) (start [])) id = some { start [] with pc := 0x104 } := by decide +kernel
theorem test_hbrp : seen (exec .hbrp (start [])) id = some { start [] with pc := 0x104 } := by decide +kernel
theorem test_hbrr : seen (exec (.hbrr 8 (-64)) (start [])) id = some { start [] with pc := 0x104 } := by decide +kernel
theorem test_iret : control (exec (.iret 0) { start [] with srr0 := 0x207 }) = some (0x204, false) := by decide +kernel
theorem test_iretd : control (exec (.iretd 0) { start [] with srr0 := 0x200, ie := true }) = some (0x200, false) := by
  decide +kernel
theorem test_irete : control (exec (.irete 0) { start [] with srr0 := 0x40008 }) = some (8, true) := by decide +kernel

/-! Loads and stores: the vectors of 46_load_store.md.  The quadword at 0x110 holds 10, 11, …, 1F. -/

/-- The bytes from 0x100 to 0x11F hold 00 to 1F. -/
def loaded (regs : List (RegNum × Quad)) : State :=
  let s := start regs
  { s with mem := s.mem.writeBytes 0x100 ((List.range 32).map fun i => BitVec.ofNat 8 i) }

/-- The quadword of 0x110. -/
def at110 : Quad := quad 0x10111213 0x14151617 0x18191A1B 0x1C1D1E1F

theorem test_lqa : reg3 (exec (.lqa 3 0x114) (loaded [])) = some at110 := by decide +kernel
theorem test_lqd : reg3 (exec (.lqd 3 31 4) (loaded [(4, quad 0x10F 9 9 9)])) = some at110 := by decide +kernel
theorem test_lqr : reg3 (exec (.lqr 3 32) { loaded [] with pc := 0xF4 }) = some at110 := by decide +kernel
theorem test_lqx : reg3 (exec (.lqx 3 4 5) (loaded [(4, quad 0xFFFFFFF0 9 9 9), (5, quad 0x120 9 9 9)])) = some at110 := by
  decide +kernel

/-- The bytes at some addresses of the next state. -/
def bytes (o : Outcome) (as : List Nat) : Option (List Byte) := seen o fun t => as.map t.mem.read

/-- Register 6 holds a value that each store test stores. -/
def toStore (regs : List (RegNum × Quad)) : State := start ((6, quad 0x00112233 0x44556677 0x8899AABB 0xCCDDEEFF) :: regs)

theorem test_stqa : bytes (exec (.stqa 6 0x20C) (toStore [])) [0x1FF, 0x200, 0x201, 0x20F, 0x210] =
    some [0, 0, 0x11, 0xFF, 0] := by decide +kernel
theorem test_stqd : bytes (exec (.stqd 6 (-16) 4) (toStore [(4, quad 0x210 9 9 9)])) [0x1FF, 0x201, 0x208, 0x20F, 0x210] =
    some [0, 0x11, 0x88, 0xFF, 0] := by decide +kernel
theorem test_stqr : bytes (exec (.stqr 6 0x100) { toStore [] with pc := 0x104 }) [0x201, 0x20F, 0x211] =
    some [0x11, 0xFF, 0] := by decide +kernel
theorem test_stqx : bytes (exec (.stqx 6 4 5) (toStore [(4, quad 0x200 9 9 9), (5, quad 0xB 9 9 9)])) [0x202, 0x20F, 0x212] =
    some [0x22, 0xFF, 0] := by decide +kernel

/-! Control and channels: the vectors of 48_control_channel.md and 60_exceptions.md. -/

theorem test_dsync : seen (exec .dsync { start [] with pendingStores := [0x200], unsynced := [0x200] })
    (fun t => (t.pc, t.pendingStores, t.unsynced)) = some (0x104, [], [0x200]) := by decide +kernel
theorem test_lnop : seen (exec .lnop (start [])) id = some { start [] with pc := 0x104 } := by decide +kernel
theorem test_nop : seen (exec (.nop 5) (start [(5, 7)])) id = some { start [(5, 7)] with pc := 0x104 } := by decide +kernel
theorem test_mfspr : reg3 (exec (.mfspr 3 5) { start [] with spr := [(5, 0xABCD)] }) = some (quad 0xABCD 0 0 0) ∧
    refusal (exec (.mfspr 3 5) (start [])) = some (.sprAbsent 5) := by decide +kernel
theorem test_mtspr : seen (exec (.mtspr 5 4) { start [(4, quad 0xABCD 1 2 3)] with spr := [(5, 0)] }) (·.spr) =
    some [(5, 0xABCD)] := by decide +kernel
theorem test_rchcnt : seen (exec (.rchcnt 3 29) { start [] with inMbox := [1, 2, 3] }) (fun t => (t.reg 3, t.inMbox)) =
    some (quad 3 0 0 0, [1, 2, 3]) := by decide +kernel
theorem test_rchcnt_command : seen (exec (.rchcnt 3 21) (start [])) (·.reg 3) = some (quad 16 0 0 0) ∧
    seen (exec (.wrch 21 4) (start [(4, quad 0x40 9 9 9)])) (fun t => (t.mfc.queue, t.mfc.transfers)) =
      some ([⟨0x40, 0, 0, 0, 0, 0⟩], [⟨⟨0x40, 0, 0, 0, 0, 0⟩, []⟩]) := by decide +kernel
theorem test_rdch : seen (exec (.rdch 3 29) { start [] with inMbox := [0x12345678, 0x9ABCDEF0] })
    (fun t => (t.reg 3, t.inMbox, t.pc)) = some (quad 0x12345678 0 0 0, [0x9ABCDEF0], 0x104) ∧
    seen (exec (.rdch 3 29) (start [])) id = some (start []) := by decide +kernel
theorem test_rdch_refused : refusal (exec (.rdch 3 1) (start [])) = some (.channelNotReadable 1) ∧
    refusal (exec (.rdch 3 5) (start [])) = some (.channelNotReadable 5) := by decide +kernel
theorem test_stop : seen (exec (.stop 0x2A) { start [] with pc := 0x120 }) (fun t => (t.run, t.npc, t.stopCode, t.pc)) =
    some (.stopped 0x2A, 0x124, 0x2A, 0x120) := by decide +kernel
theorem test_stopd : seen (exec (.stopd 4 5 6) { start [] with pc := 0x3FFFC }) (fun t => (t.run, t.npc, t.stopCode)) =
    some (.stopped 0x3FFF, 0, 0x3FFF) := by decide +kernel
theorem test_sync : seen (exec .sync { start [] with pendingStores := [0x200], unsynced := [0x200] })
    (fun t => (t.pc, t.pendingStores, t.unsynced)) = some (0x104, [], []) := by decide +kernel
theorem test_syncc : seen (exec .syncc { start [] with pendingStores := [0x200], unsynced := [0x200] })
    (fun t => (t.pc, t.pendingStores, t.unsynced)) = some (0x104, [], []) := by decide +kernel
theorem test_wrch : seen (exec (.wrch 14 4) (start [(4, quad 0x208 9 9 9)])) (fun t => (t.srr0, t.pc)) =
    some (0x208, 0x104) ∧
    seen (exec (.wrch 28 4) { start [] with outMbox := some 1 }) id = some { start [] with outMbox := some 1 } := by decide +kernel
theorem test_wrch_acknowledge : seen (exec (.wrch 2 4) { start [(4, quad 1 9 9 9)] with eventPending := 3 })
    (·.eventPending) = some 2 ∧ refusal (exec (.wrch 0 4) (start [])) = some (.channelNotWritable 0) := by decide +kernel

/-- V60.1: the interrupt before the instruction at 0x114. -/
theorem test_interrupt :
    seen (step { start [] with pc := 0x114, ie := true, eventPending := 1, eventMask := 1, env := [.interrupt] }) id =
      some { start [] with pc := 0, srr0 := 0x114, eventPending := 1, eventMask := 1 } := by decide +kernel

/-- V60.2, V60.3: not taken with IE = 0, nor with the event masked. -/
theorem test_interrupt_not_taken :
    seen (step { start [] with eventPending := 1, eventMask := 1, env := [.interrupt] }) id =
      some { start [] with eventPending := 1, eventMask := 1 } ∧
    seen (step { start [] with ie := true, eventPending := 1, env := [.interrupt] }) id =
      some { start [] with ie := true, eventPending := 1 } := by decide +kernel

/-- A transfer of 32 bytes to the last byte of local storage and on, which has moved its byte 0. -/
def moving : Transfer := ⟨⟨0x40, 0x3FFFF, 0, 0, 32, 3⟩, [0]⟩

/-- R82: byte 2 of a transfer into local storage goes to the address two on from its first, and is moved once; byte 32 is none of
its own. -/
theorem test_dmaMove (h : Config.dmaKind 0x40 = .toStorage) :
    let s := { start [] with mfc := { Mfc.reset with transfers := [moving] } }
    moving.addr 2 = 1 ∧ (s.dmaMove 0 2 [0xAB]).mem.read 1 = 0xAB ∧
    (s.dmaMove 0 2 [0xAB]).mfc.transfers = [{ moving with moved := [2, 0] }] ∧
    s.dmaMove 0 0 [0xAB] = s ∧ s.dmaMove 0 32 [0xAB] = s := by
  have h : moving.kind = .toStorage := h
  have moves : ∀ k, moving.mayMove k = decide (k < 32 ∧ k ≠ 0) := by
    simp [Transfer.mayMove, h, Transfer.access, Config.quadwordAtomic, show moving.size = 32 from rfl,
      show moving.moved = [0] from rfl]
  refine ⟨by decide +kernel, ?_, ?_, ?_, ?_⟩ <;>
    simp [State.dmaMove, moves, h, Transfer.access, Config.quadwordAtomic] <;> rfl

/-- V70.2: a fetch from a word stored to since the last `sync`. -/
theorem test_stale_fetch : fault (step { start [] with unsynced := [0x100] }) = some (.staleFetch 0x100) := by decide +kernel

/-- The interface's word runs as the first instruction (`ai $3, $4, 511`, annex). -/
theorem test_withFetchWord : reg3 (step (State.reset.withFetchWord 32 0x1C7FC203)) = some (quad 511 511 511 511) ∧
    decodeTableWord 32 0x1C7FC203 = some (.ai 3 4 511) := by decide +kernel

/-! Floating point: the functions of R420 are not evaluated; the tests show which function of which element each instruction
stores, in word element 2 or doubleword element 1, and the program counter. -/

/-- Distinct values in every word of registers 3 to 6. -/
def fpState : State := start [(3, quad 0xC 0xD 0xE 0xF), (4, quad 1 2 3 4), (5, quad 5 6 7 8), (6, quad 9 10 11 12)]

/-- Word element 2 of register 3 and the pc. -/
def word2 (o : Outcome) : Option (Word × Word) := seen o fun t => (wordAt (t.reg 3) 2, t.pc)
/-- Doubleword element 1 of register 3 and the pc. -/
def dword1 (o : Outcome) : Option (DWord × Word) := seen o fun t => (dwordAt (t.reg 3) 1, t.pc)

/-- What the tests of this part need of a floating-point step: the next state's register 3 and pc. -/
theorem fp_seen (i : Instr) (operands : List Quad) (v : Quad) (s : State) {α : Type} (f : State → α) :
    seen (fpResult i 3 operands v s) f =
      some (f ({ s with fpscr := Config.fpscrUpdate s.fpscr i operands v }.setReg 3 v).advance) := rfl

theorem word2_fp (i : Instr) (operands : List Quad) (f : Nat → Word) (s : State) :
    word2 (fpResult i 3 operands (ofWords f) s) = some (f 2, nextPc s.pc) := by
  rw [word2, fp_seen]; simp [Laws.wordAt_ofWords]

theorem dword1_fp (i : Instr) (operands : List Quad) (f : Nat → DWord) (s : State) :
    dword1 (fpResult i 3 operands (ofDwords f) s) = some (f 1, nextPc s.pc) := by
  rw [dword1, fp_seen]; simp [Laws.dwordAt_ofDwords]

/-- Word element 2 of registers 4, 5, 6, doubleword element 1 of registers 3, 4, 5, word element 2 of register 4 alone. -/
theorem fp_words : wordAt (fpState.reg 4) 2 = 3 ∧ wordAt (fpState.reg 5) 2 = 7 ∧ wordAt (fpState.reg 6) 2 = 11 := by
  decide +kernel
theorem fp_dwords : dwordAt (fpState.reg 3) 1 = 0xE0000000F ∧ dwordAt (fpState.reg 4) 1 = 0x300000004 ∧
    dwordAt (fpState.reg 5) 1 = 0x700000008 := by decide +kernel
theorem fp_pc : nextPc fpState.pc = 0x104 ∧ fpState.fpscr = 0 := by decide +kernel

theorem test_cflts : word2 (exec (.cflts 3 4 1) fpState) = some (cflts32 0 1 3, 0x104) := by
  refine (word2_fp _ _ _ _).trans ?_
  rw [fp_pc.1]; simp only [fp_words, fp_pc.2]
theorem test_cfltu : word2 (exec (.cfltu 3 4 1) fpState) = some (cfltu32 0 1 3, 0x104) := by
  refine (word2_fp _ _ _ _).trans ?_
  rw [fp_pc.1]; simp only [fp_words, fp_pc.2]
theorem test_csflt : word2 (exec (.csflt 3 4 1) fpState) = some (Config.csflt32 0 3 1, 0x104) := by
  refine (word2_fp _ _ _ _).trans ?_
  rw [fp_pc.1]; simp only [fp_words, fp_pc.2]; rfl
theorem test_cuflt : word2 (exec (.cuflt 3 4 1) fpState) = some (Config.cuflt32 0 3 1, 0x104) := by
  refine (word2_fp _ _ _ _).trans ?_
  rw [fp_pc.1]; simp only [fp_words, fp_pc.2]; rfl
theorem test_dfa : dword1 (exec (.dfa 3 4 5) fpState) = some (Config.dfadd 0 0x300000004 0x700000008, 0x104) := by
  refine (dword1_fp _ _ _ _).trans ?_
  rw [fp_pc.1]; simp only [fp_dwords, fp_pc.2]
theorem test_dfm : dword1 (exec (.dfm 3 4 5) fpState) = some (Config.dfmul 0 0x300000004 0x700000008, 0x104) := by
  refine (dword1_fp _ _ _ _).trans ?_
  rw [fp_pc.1]; simp only [fp_dwords, fp_pc.2]
theorem test_dfs : dword1 (exec (.dfs 3 4 5) fpState) = some (Config.dfsub 0 0x300000004 0x700000008, 0x104) := by
  refine (dword1_fp _ _ _ _).trans ?_
  rw [fp_pc.1]; simp only [fp_dwords, fp_pc.2]
theorem test_dfma : dword1 (exec (.dfma 3 4 5) fpState) = some (Config.dfma 0 0x300000004 0x700000008 0xE0000000F, 0x104) := by
  refine (dword1_fp _ _ _ _).trans ?_
  rw [fp_pc.1]; simp only [fp_dwords, fp_pc.2]
theorem test_dfms : dword1 (exec (.dfms 3 4 5) fpState) = some (Config.dfms 0 0x300000004 0x700000008 0xE0000000F, 0x104) := by
  refine (dword1_fp _ _ _ _).trans ?_
  rw [fp_pc.1]; simp only [fp_dwords, fp_pc.2]
theorem test_dfnma : dword1 (exec (.dfnma 3 4 5) fpState) = some (Config.dfnma 0 0x300000004 0x700000008 0xE0000000F, 0x104) := by
  refine (dword1_fp _ _ _ _).trans ?_
  rw [fp_pc.1]; simp only [fp_dwords, fp_pc.2]
theorem test_dfnms : dword1 (exec (.dfnms 3 4 5) fpState) = some (Config.dfnms 0 0x300000004 0x700000008 0xE0000000F, 0x104) := by
  refine (dword1_fp _ _ _ _).trans ?_
  rw [fp_pc.1]; simp only [fp_dwords, fp_pc.2]
theorem test_fa : word2 (exec (.fa 3 4 5) fpState) = some (Config.fadd32 0 3 7, 0x104) := by
  refine (word2_fp _ _ _ _).trans ?_
  rw [fp_pc.1]; simp only [fp_words, fp_pc.2]
theorem test_fm : word2 (exec (.fm 3 4 5) fpState) = some (Config.fmul32 0 3 7, 0x104) := by
  refine (word2_fp _ _ _ _).trans ?_
  rw [fp_pc.1]; simp only [fp_words, fp_pc.2]
theorem test_fs : word2 (exec (.fs 3 4 5) fpState) = some (Config.fsub32 0 3 7, 0x104) := by
  refine (word2_fp _ _ _ _).trans ?_
  rw [fp_pc.1]; simp only [fp_words, fp_pc.2]
theorem test_fi : word2 (exec (.fi 3 4 5) fpState) = some (Config.fi32 0 3 7, 0x104) := by
  refine (word2_fp _ _ _ _).trans ?_
  rw [fp_pc.1]; simp only [fp_words, fp_pc.2]
theorem test_fceq : word2 (exec (.fceq 3 4 5) fpState) = some (maskWord (Config.fceq32 0 3 7), 0x104) := by
  refine (word2_fp _ _ _ _).trans ?_
  rw [fp_pc.1]; simp only [fp_words, fp_pc.2]
theorem test_fcgt : word2 (exec (.fcgt 3 4 5) fpState) = some (maskWord (Config.fcgt32 0 3 7), 0x104) := by
  refine (word2_fp _ _ _ _).trans ?_
  rw [fp_pc.1]; simp only [fp_words, fp_pc.2]
theorem test_fcmeq : word2 (exec (.fcmeq 3 4 5) fpState) = some (maskWord (fcmeq32 0 3 7), 0x104) := by
  refine (word2_fp _ _ _ _).trans ?_
  rw [fp_pc.1]; simp only [fp_words, fp_pc.2]
theorem test_fcmgt : word2 (exec (.fcmgt 3 4 5) fpState) = some (maskWord (fcmgt32 0 3 7), 0x104) := by
  refine (word2_fp _ _ _ _).trans ?_
  rw [fp_pc.1]; simp only [fp_words, fp_pc.2]
theorem test_fma : word2 (exec (.fma 3 4 5 6) fpState) = some (Config.fma32 0 3 7 11, 0x104) := by
  refine (word2_fp _ _ _ _).trans ?_
  rw [fp_pc.1]; simp only [fp_words, fp_pc.2]
theorem test_fms : word2 (exec (.fms 3 4 5 6) fpState) = some (Config.fms32 0 3 7 11, 0x104) := by
  refine (word2_fp _ _ _ _).trans ?_
  rw [fp_pc.1]; simp only [fp_words, fp_pc.2]
theorem test_fnms : word2 (exec (.fnms 3 4 5 6) fpState) = some (Config.fnms32 0 3 7 11, 0x104) := by
  refine (word2_fp _ _ _ _).trans ?_
  rw [fp_pc.1]; simp only [fp_words, fp_pc.2]
theorem test_frest : word2 (exec (.frest 3 4) fpState) = some (Config.frest32 0 3, 0x104) := by
  refine (word2_fp _ _ _ _).trans ?_
  rw [fp_pc.1]; simp only [fp_words, fp_pc.2]
theorem test_frsqest : word2 (exec (.frsqest 3 4) fpState) = some (Config.frsqest32 0 3, 0x104) := by
  refine (word2_fp _ _ _ _).trans ?_
  rw [fp_pc.1]; simp only [fp_words, fp_pc.2]
theorem test_fesd : dword1 (exec (.fesd 3 4) fpState) = some (Config.fesd64 0 3, 0x104) := by
  refine (dword1_fp _ _ _ _).trans ?_
  rw [fp_pc.1]; simp only [fp_words, Nat.mul_one, fp_pc.2]
theorem test_frds : dword1 (exec (.frds 3 4) fpState) = some (Config.frds32 0 0x300000004 ++ 0#32, 0x104) := by
  refine (dword1_fp _ _ _ _).trans ?_
  rw [fp_pc.1]; simp only [fp_dwords, fp_pc.2]
theorem test_fscrrd : reg3 (exec (.fscrrd 3) { start [] with fpscr := 0xF07 }) = some 0xF07 := by decide +kernel
theorem test_fscrwr : seen (exec (.fscrwr 0 4) (start [(4, quad 0xF00 1 2 3)])) (fun t => (t.fpscr, t.reg 0)) =
    some (quad 0xF00 1 2 3, 0) := by decide +kernel

/-! Witnesses: for each obligation with hypotheses, a concrete state and operands that meet them together, one for each clause
and at the ends of its range. -/

/-- From what is seen of the next state, that there is one. -/
theorem next_of_seen {o : Outcome} {α : Type} {f : State → α} {v : α} (h : seen o f = some v) : ∃ t, o = .next t ∧ f t = v := by
  cases o with
  | next t => exact ⟨t, rfl, Option.some.inj h⟩
  | fault r => cases h
  | refused r => cases h

/-- Obligations.LoadAfterStore: each store to the last quadword of local storage, and each load of it after that store. -/
theorem witness_loadAfterStore :
    let s := start [(6, quad 1 2 3 4), (4, quad 0x3FFF0 0 0 0), (5, quad 0xF 0 0 0), (7, quad 8 0 0 0)]
    let stores : List Instr := [.stqa 6 0x3FFFC, .stqd 6 (-16) 7, .stqr 6 (-0x110), .stqx 6 4 5]
    let loads : List Instr := [.lqa 3 0x3FFF0, .lqd 3 (-16) 7, .lqr 3 (-0x108), .lqx 3 4 5]
    ∀ k : Fin 4, stores[k].storesAt s = some (6, 0x3FFF0) ∧
      ∃ t, exec stores[k] s = .next t ∧ loads.map (·.loadsAt t) = List.replicate 4 (some (3, 0x3FFF0)) := by
  intro s stores loads k
  match k with
  | 0 => exact ⟨by decide +kernel, next_of_seen (by decide +kernel)⟩
  | 1 => exact ⟨by decide +kernel, next_of_seen (by decide +kernel)⟩
  | 2 => exact ⟨by decide +kernel, next_of_seen (by decide +kernel)⟩
  | 3 => exact ⟨by decide +kernel, next_of_seen (by decide +kernel)⟩

/-- Obligations.ConsumingReads and BlockingWrites: a state with a transfer that has moved a byte, and a queue one below its
depth. -/
theorem witness_channelTransfers : let x : Transfer := ⟨⟨0x40, 0x1000, 0, 0, 16, 3⟩, [15]⟩
    let s := { start [] with mfc := { Mfc.reset with transfers := [x], queue := List.replicate 15 x.command } }
    x ∈ s.mfc.transfers ∧ s.mfc.queue.length < 16 ∧ s.blockingCount 21 = 1 := by decide +kernel

/-- Obligations.SpecialRegisters: a register that exists, and the last number without one. -/
theorem witness_specialRegisters : let s := { start [] with spr := [(0, 7), (5, 0xABCD)] }
    s.spr.lookup 0 = some 7 ∧ s.spr.lookup 5 = some 0xABCD ∧ s.spr.lookup 127 = none := by decide +kernel

/-- Obligations.PlainReads, its last clause: the highest event bit pending and enabled. -/
theorem witness_plainReads : let s := { start [] with eventPending := 0x80000001, eventMask := 0x80000000 }
    s.eventPending &&& s.eventMask ≠ 0 := by decide +kernel

/-- Obligations.ChannelStalls: a blocking channel to read, empty and not; one to write, full and not. -/
theorem witness_channelStalls : channelBlocking 0 = true ∧ channelReadable 0 = true ∧ channelBlocking 29 = true ∧
    channelReadable 29 = true ∧ channelBlocking 9 = true ∧ channelWritable 9 = true ∧ channelBlocking 30 = true ∧
    channelWritable 30 = true ∧ (start []).blockingCount 29 = 0 ∧ { start [] with inMbox := [1] }.blockingCount 29 = 1 ∧
    (start []).blockingCount 30 = 1 ∧ { start [] with outIntrMbox := some 1 }.blockingCount 30 = 0 := by decide +kernel

/-- Obligations.RefusedChannels: the channels where the clauses meet. -/
theorem witness_refusedChannels : channelReadable 29 = true ∧ channelReadable 30 = false ∧ channelReadable 127 = false ∧
    channelWritable 30 = true ∧ channelWritable 31 = false ∧ channelReadable 1 = false ∧ channelWritable 0 = false := by
  decide +kernel

/-- `nop` at 0x100 (annex), a full mailbox, marks at the end of local storage, a transfer that has moved its outer bytes. -/
def busy : State :=
  { start [] with
    mem := [(0x100, 0x40), (0x101, 0x20), (0x3FFFF, 1)], inMbox := [1, 2, 3, 4], pendingStores := [0x3FFF0]
    unsynced := [0x3FFFC], eventPending := 3
    mfc := { Mfc.reset with transfers := [⟨⟨0x40, 0x3FFFF, 0, 0, 16, 3⟩, [0, 15]⟩] } }

/-- Obligations.StepRunsDecoded. -/
theorem witness_stepRunsDecoded : busy.run = .running ∧ busy.staleAtPc = false ∧ busy.env = [] ∧
    decode busy.fetchBytes = .ok (.nop 0, []) := by decide +kernel

/-- Obligations.DecodeEncode: operands at the ends of their ranges. -/
theorem witness_decodeEncode : (Instr.br 0x3FFFC).wf = true ∧ (Instr.hbrr (-1024) 0x20000).wf = true ∧
    (Instr.lqd 127 (-8192) 0).wf = true ∧ (Instr.cflts 0 0 127).wf = true ∧ (Instr.rotqmbyi 3 4 (-32)).wf = true := by
  decide +kernel

/-- Obligations.StepKeepsInvariant, on an instruction. -/
theorem witness_stepKeepsInvariant : busy.Inv ∧ ∃ t, step busy = .next t ∧ t.pc = 0x104 := by
  refine ⟨⟨by decide +kernel, by decide +kernel, by decide +kernel, by decide +kernel, by decide +kernel, ?_, ?_, ?_⟩,
    next_of_seen (by decide +kernel)⟩ <;> decide +kernel

/-- Obligations.FetchStops, each clause: a stale word, a word of no opcode, `bi` with D and E. -/
theorem witness_fetchStops : { busy with unsynced := [0x100] }.staleAtPc = true ∧ busy.staleAtPc = false ∧
    decode { busy with mem := [(0x100, 0x9F), (0x101, 0xFF), (0x102, 0xFF), (0x103, 0xFF)] }.fetchBytes =
      .error (.illegalWord 0x9FFFFFFF) ∧
    decode { busy with mem := [(0x100, 0x35), (0x101, 0x0C)] }.fetchBytes = .error (.bothInterruptBits 0x350C0000) := by
  decide +kernel

/-- Obligations.StoppedStays: a stopped SPU and a mailbox that fills, a halted one with nothing due. -/
theorem witness_stoppedStays :
    (∃ t, step { start [] with run := .stopped 0, env := [.mailIn 5] } = .next t ∧ t.inMbox = [5]) ∧
    (∃ t, step { start [] with run := .halted } = .next t ∧ t.run = .halted) :=
  ⟨next_of_seen (by decide +kernel), next_of_seen (by decide +kernel)⟩

/-- Obligations.OnlyTheseChangeIe: one form that disables, one that enables. -/
theorem witness_onlyTheseChangeIe : (∃ t, exec (.bid 4) { start [] with ie := true } = .next t ∧ t.ie = false) ∧
    (∃ t, exec (.bie 4) (start []) = .next t ∧ t.ie = true) :=
  ⟨next_of_seen (by decide +kernel), next_of_seen (by decide +kernel)⟩

/-- Obligations.OnlyStoresChangeMemory. -/
theorem witness_onlyStoresChangeMemory : (∃ t, exec .dsync busy = .next t ∧ t.pendingStores = []) ∧ Instr.dsync.isStore = false :=
  ⟨next_of_seen (by decide +kernel), rfl⟩

/-- Obligations.OnlyTheTargetIsWritten: a target and a pseudo target. -/
theorem witness_onlyTheTargetIsWritten : (∃ t, exec (.ai 3 4 1) busy = .next t ∧ t.reg 3 = quad 1 1 1 1) ∧
    (Instr.ai 3 4 1).written ≠ some 4 ∧ (∃ t, exec (.nop 3) busy = .next t ∧ t.pc = 0x104) ∧ (Instr.nop 3).written ≠ some 3 :=
  ⟨next_of_seen (by decide +kernel), by decide, next_of_seen (by decide +kernel), by decide⟩

/-- Obligations.OnlyBranchesMovePc: one that goes on, one that stops, one that waits. -/
theorem witness_onlyBranchesMovePc : (∃ t, exec .lnop busy = .next t ∧ t.pc = 0x104) ∧
    (∃ t, exec (.stop 1) busy = .next t ∧ t.pc = 0x100) ∧ (∃ t, exec (.rdch 3 3) busy = .next t ∧ t.pc = 0x100) ∧
    Instr.lnop.isBranch = false ∧ (Instr.stop 1).isBranch = false ∧ (Instr.rdch 3 3).isBranch = false :=
  ⟨next_of_seen (by decide +kernel), next_of_seen (by decide +kernel), next_of_seen (by decide +kernel), rfl, rfl, rfl⟩

/-- Obligations.OnlyTheseChangeSystemRegisters: a write of SRR0, of FPSCR, and of the run state. -/
theorem witness_onlyTheseChangeSystemRegisters : let s := start [(4, quad 0x208 0 0 0)]
    (∃ t, exec (.wrch 14 4) s = .next t ∧ t.srr0 = 0x208) ∧
    (∃ t, exec (.fscrwr 0 4) s = .next t ∧ t.fpscr = quad 0x208 0 0 0) ∧ (∃ t, exec (.heq 0 1 2) s = .next t ∧ t.run = .halted) :=
  ⟨next_of_seen (by decide +kernel), next_of_seen (by decide +kernel), next_of_seen (by decide +kernel)⟩

/-- Obligations.EventsStayUntilAcknowledged: `wrch $ch2, $4` (annex) acknowledges the highest bit. -/
theorem witness_eventsStayUntilAcknowledged :
    let s := { start [(4, quad 0x80000000 0 0 0)] with eventPending := 0x80000001 }.withFetchWord 32 0x21A00104
    s.eventPending.getLsbD 31 = true ∧ (∃ t, step s = .next t ∧ (t.eventPending.getLsbD 31, t.eventPending.getLsbD 0) = (false, true)) :=
  ⟨by decide +kernel, next_of_seen (by decide +kernel)⟩

end Sys2Proof.Tests
end

section
/-! Channel instructions (R460, R467, R472): when `rdch` and `wrch` wait and what a write that can wait does.  It first
says once what the two instructions make of `channelRead` and `channelWrite`, then ties the counts of the blocking
channels to them. -/

namespace Sys2Proof.Laws

open Sys2Proof.Machine

/-! What the two instructions make of the channel's answer. -/

/-- The next instruction is never the one at the pc (R38). -/
theorem nextPc_ne (pc : Word) : nextPc pc ≠ pc := by
  intro h
  have hmod := nextPc_toNat pc
  rw [h, Config.lsSize] at hmod
  omega

/-- A state whose pc has moved on is not the state before (R38). -/
theorem next_ne_of_pc {s t : State} (h : t.pc = nextPc s.pc) : (.next t : Outcome) ≠ .next s :=
  fun e => nextPc_ne s.pc (h.symm.trans (congrArg State.pc (Host.Outcome.next.inj e)))

theorem exec_rdch (rt : RegNum) (ch : ChNum) (s : State) : exec (.rdch rt ch) s = execRdch rt ch s := rfl

theorem exec_wrch (ch : ChNum) (ra : RegNum) (s : State) : exec (.wrch ch ra) s = execWrch ch ra s := rfl

theorem exec_rdch_none {s : State} {ch : ChNum} (rt : RegNum) (hr : channelReadable ch = true)
    (h : s.channelRead ch = none) : exec (.rdch rt ch) s = .next s := by
  simp [exec_rdch, execRdch, hr, h, stall]

theorem exec_rdch_some {s t : State} {ch : ChNum} {w : Word} (rt : RegNum) (hr : channelReadable ch = true)
    (h : s.channelRead ch = some (w, t)) : exec (.rdch rt ch) s = .next (t.setReg rt (inWord0 w)).advance := by
  simp [exec_rdch, execRdch, hr, h, writeResult]

theorem exec_wrch_none {s : State} {ch : ChNum} {ra : RegNum} (hw : channelWritable ch = true)
    (h : s.channelWrite ch (s.scalarReg ra) = none) : exec (.wrch ch ra) s = .next s := by
  simp [exec_wrch, execWrch, hw, h, stall]

theorem exec_wrch_some {s t : State} {ch : ChNum} {ra : RegNum} (hw : channelWritable ch = true)
    (h : s.channelWrite ch (s.scalarReg ra) = some t) : exec (.wrch ch ra) s = .next t.advance := by
  simp [exec_wrch, execWrch, hw, h, continueNext]

/-- A read waits exactly where the channel has nothing to read: one that completes moves the pc (R38, R460 c). -/
theorem exec_rdch_waits_iff {s : State} {ch : ChNum} (rt : RegNum) (hr : channelReadable ch = true) :
    exec (.rdch rt ch) s = .next s ↔ s.channelRead ch = none := by
  refine ⟨fun h => ?_, exec_rdch_none rt hr⟩
  match hread : s.channelRead ch with
  | none => rfl
  | some (w, t) =>
    rw [exec_rdch_some rt hr hread] at h
    obtain ⟨-, hpc, -⟩ := channelRead_frame hread
    exact absurd h (next_ne_of_pc (congrArg nextPc hpc))

/-- A write waits exactly where the channel cannot accept one: one that completes moves the pc (R38, R460 c). -/
theorem exec_wrch_waits_iff {s : State} {ch : ChNum} (ra : RegNum) (hw : channelWritable ch = true) :
    exec (.wrch ch ra) s = .next s ↔ s.channelWrite ch (s.scalarReg ra) = none := by
  refine ⟨fun h => ?_, exec_wrch_none hw⟩
  match hwrite : s.channelWrite ch (s.scalarReg ra) with
  | none => rfl
  | some t =>
    rw [exec_wrch_some hw hwrite] at h
    obtain ⟨-, hpc, -⟩ := channelWrite_frame hwrite
    exact absurd h (next_ne_of_pc (congrArg nextPc hpc))

/-- A write that is accepted under a condition, and waits otherwise. -/
theorem exec_wrch_ite {s t : State} {ch : ChNum} {ra : RegNum} {p : Prop} [Decidable p] (hw : channelWritable ch = true)
    (h : s.channelWrite ch (s.scalarReg ra) = if p then some t else none) :
    exec (.wrch ch ra) s = .next (if p then t.advance else s) := by
  by_cases hp : p
  · rw [if_pos hp] at h ⊢
    exact exec_wrch_some hw h
  · rw [if_neg hp] at h ⊢
    exact exec_wrch_none hw h

/-! The writes that can wait (R50, R52). -/

theorem channelWrite_msSyncReq (s : State) (v : Word) : s.channelWrite 9#7 v =
    if s.mfc.msSyncReq = none then some { s with mfc := { s.mfc with msSyncReq := some v } } else none := by
  cases h : s.mfc.msSyncReq <;> simp [State.channelWrite, h]

theorem channelWrite_mfcCmd (s : State) (v : Word) : s.channelWrite 21#7 v =
    if s.mfc.queue.length < Config.mfcQueueDepth then some { s with mfc := s.mfc.enqueue (s.mfc.command v) } else none :=
  rfl

theorem channelWrite_tagUpdate (s : State) (v : Word) : s.channelWrite 23#7 v =
    if s.mfc.tagUpdate = none then some { s with mfc := { s.mfc with tagUpdate := some v } } else none := by
  cases h : s.mfc.tagUpdate <;> simp [State.channelWrite, h]

theorem channelWrite_outMbox (s : State) (v : Word) : s.channelWrite 28#7 v =
    if s.outMbox = none then some { s with outMbox := some v } else none := by
  cases h : s.outMbox <;> simp [State.channelWrite, h]

theorem channelWrite_outIntrMbox (s : State) (v : Word) : s.channelWrite 30#7 v =
    if s.outIntrMbox = none then some { s with outIntrMbox := some v, ppuInterrupts := s.ppuInterrupts + 1 } else none := by
  cases h : s.outIntrMbox <;> simp [State.channelWrite, h]

/-! The counts of the blocking channels (R43, R46). -/

@[simp] theorem entries_eq_zero_iff (o : Option Word) : entries o = 0 ↔ o = none := by
  cases o <;> simp [entries]

@[simp] theorem one_sub_entries_eq_zero_iff (o : Option Word) : 1 - entries o = 0 ↔ o ≠ none := by
  cases o <;> simp [entries]

/-- The blocking channels that `rdch` may name (R46). -/
theorem eq_of_blocking_readable : ∀ ch : ChNum, channelBlocking ch = true → channelReadable ch = true →
    ch = 0 ∨ ch = 3 ∨ ch = 4 ∨ ch = 24 ∨ ch = 25 ∨ ch = 27 ∨ ch = 29 := by decide

/-- The blocking channels that `wrch` may name (R46). -/
theorem eq_of_blocking_writable : ∀ ch : ChNum, channelBlocking ch = true → channelWritable ch = true →
    ch = 9 ∨ ch = 21 ∨ ch = 23 ∨ ch = 28 ∨ ch = 30 := by decide

/-- A blocking channel has nothing to read exactly where its count is 0 (R43, R44). -/
theorem channelRead_eq_none_iff (s : State) {ch : ChNum} (hb : channelBlocking ch = true)
    (hr : channelReadable ch = true) : s.channelRead ch = none ↔ s.blockingCount ch = 0 := by
  rcases eq_of_blocking_readable ch hb hr with rfl | rfl | rfl | rfl | rfl | rfl | rfl <;>
    simp [State.channelRead, State.blockingCount]

/-- A blocking channel accepts no write exactly where its count is 0 (R43, R45). -/
theorem channelWrite_eq_none_iff (s : State) {ch : ChNum} (v : Word) (hb : channelBlocking ch = true)
    (hw : channelWritable ch = true) : s.channelWrite ch v = none ↔ s.blockingCount ch = 0 := by
  rcases eq_of_blocking_writable ch hb hw with rfl | rfl | rfl | rfl | rfl
  · simp [channelWrite_msSyncReq, State.blockingCount]
  · simp [channelWrite_mfcCmd, State.blockingCount, Nat.sub_eq_zero_iff_le]
  · simp [channelWrite_tagUpdate, State.blockingCount]
  · simp [channelWrite_outMbox, State.blockingCount]
  · simp [channelWrite_outIntrMbox, State.blockingCount]

/-- Settles O43: an instruction waits exactly where its channel answers nothing, and a blocking channel answers nothing
exactly where its count is 0. -/
theorem channelStalls : Obligations.ChannelStalls := by
  intro s r ch hb
  exact ⟨fun hr => (exec_rdch_waits_iff r hr).trans (channelRead_eq_none_iff s hb hr),
    fun hw => (exec_wrch_waits_iff r hw).trans (channelWrite_eq_none_iff s _ hb hw)⟩

/-- Settles O42, channel by channel from what each accepts. -/
theorem blockingWrites : Obligations.BlockingWrites := by
  intro s ra
  exact ⟨exec_wrch_ite (by decide) (channelWrite_outMbox s _), exec_wrch_ite (by decide) (channelWrite_outIntrMbox s _),
    exec_wrch_ite (by decide) (channelWrite_msSyncReq s _), exec_wrch_ite (by decide) (channelWrite_tagUpdate s _),
    exec_wrch_ite (by decide) (channelWrite_mfcCmd s _)⟩

end Sys2Proof.Laws
end

section
/-! What an instruction can do to the state, said once over all 212 (`Effect`, `exec_effect`), and what follows for each
register of the machine: which instructions change it (R35, R38, R40 to R42, R56). -/

namespace Sys2Proof.Laws

open Sys2Proof.Machine

/-- The change of IE that the form of an instruction stands for (R362, R506). -/
def ieForm (i : Instr) : IeChange :=
  if i.disablesInterrupts then .disable else if i.enablesInterrupts then .enable else .keep

/-- The state in which `Stop(signal)` leaves the machine (R468, R500). -/
def stoppedBy (signal : BitVec 14) (s : State) : State :=
  { s with
    npc := BitVec.ofNat 32 ((s.pc.toNat + Config.stopNpcOffset) % Config.lsSize)
    stopCode := signal
    run := .stopped signal
    ppuInterrupts := s.ppuInterrupts + 1 }

/-- What an instruction that completes can make of a state: one case for each shape of next state. -/
inductive Effect (i : Instr) (s : State) : State → Prop
  /-- Only the pc moves, to the next instruction: hints, no-operations, branches and halts that are not taken (R38). -/
  | goesOn : Effect i s s.advance
  /-- The target register takes a value (R35). -/
  | result {rt : RegNum} (v : Quad) (hw : i.written = some rt) : Effect i s (s.setReg rt v).advance
  /-- A taken branch, or an interrupt return (R360, R362, R511). -/
  | branches (a : Word) (hb : i.isBranch = true) : Effect i s (s.branchTo a (ieForm i))
  /-- A taken branch that writes the link into its target register (R361). -/
  | links {rt : RegNum} (v : Quad) (a : Word) (hb : i.isBranch = true) (hw : i.written = some rt) :
    Effect i s ((s.setReg rt v).branchTo a (ieForm i))
  /-- A store of a quadword (R401). -/
  | stores (v : Quad) (a : Word) (hs : i.isStore = true) : Effect i s (s.storeQuad (effAddr a) v).advance
  /-- `dsync` (R461). -/
  | completesStores : Effect i s s.completeStores.advance
  /-- `sync` and `syncc` (R470, R471). -/
  | synchronizes : Effect i s s.synchronize.advance
  /-- `fscrwr` (R451). -/
  | writesFpscr {rc ra : RegNum} (hi : i = .fscrwr rc ra) : Effect i s { s with fpscr := s.reg ra }.advance
  /-- `mtspr` (R464). -/
  | writesSpr (n : SprNum) (v : Word) : Effect i s (s.sprWrite n v).advance
  /-- A conditional halt whose condition holds (R501). -/
  | halts (hh : i.isStopOrHalt = true) : Effect i s { s with run := .halted }
  /-- `stop` and `stopd` (R468, R469). -/
  | stops (signal : BitVec 14) (hh : i.isStopOrHalt = true) : Effect i s (stoppedBy signal s)
  /-- `rchcnt` of a channel whose count is a free value (R466; log 18). -/
  | countsFree {rt : RegNum} (v : Quad) (hw : i.written = some rt) : Effect i s (s.drawn.setReg rt v).advance
  /-- `rdch` of a channel that has something to read (R467). -/
  | readsChannel {rt : RegNum} {ch : ChNum} {w : Word} {u : State} (hw : i.written = some rt)
    (hr : s.channelRead ch = some (w, u)) : Effect i s (u.setReg rt (inWord0 w)).advance
  /-- `wrch` to a channel that accepts the word (R472). -/
  | writesChannel {ch : ChNum} {ra : RegNum} {u : State} (hi : i = .wrch ch ra)
    (hw : s.channelWrite ch (s.scalarReg ra) = some u) : Effect i s u.advance
  /-- A channel instruction that waits (R18, R460 c). -/
  | waits : Effect i s s

/-! The shared operations. -/

theorem continueNext_effect {i : Instr} {s t : State} (h : continueNext s = .next t) : Effect i s t := by
  cases h; exact .goesOn

theorem writeResult_effect {i : Instr} {s t : State} {rt : RegNum} {v : Quad} (hw : i.written = some rt)
    (h : writeResult rt v s = .next t) : Effect i s t := by
  cases h; exact .result v hw

theorem loadFrom_effect {i : Instr} {s t : State} {rt : RegNum} {a : Word} (hw : i.written = some rt)
    (h : loadFrom rt a s = .next t) : Effect i s t :=
  writeResult_effect hw h

/-- Under the default of `FPSCR_UPDATE` a floating-point instruction writes its result and nothing else (R421, log 13). -/
theorem fpResult_eq_writeResult (j : Instr) (rt : RegNum) (operands : List Quad) (v : Quad) (s : State) :
    fpResult j rt operands v s = writeResult rt v s := rfl

theorem fpResult_effect {i j : Instr} {s t : State} {rt : RegNum} {operands : List Quad} {v : Quad}
    (hw : i.written = some rt) (h : fpResult j rt operands v s = .next t) : Effect i s t :=
  writeResult_effect hw ((fpResult_eq_writeResult j rt operands v s).symm.trans h)

theorem storeTo_effect {i : Instr} {s t : State} {rc : RegNum} {a : Word} (hs : i.isStore = true)
    (h : storeTo rc a s = .next t) : Effect i s t := by
  cases h; exact .stores _ a hs

theorem branchIf_effect {i : Instr} {s t : State} {taken : Bool} {a : Word} (hb : i.isBranch = true)
    (h : branchIf taken a (ieForm i) s = .next t) : Effect i s t := by
  rcases branchIf_cases taken a (ieForm i) s with ⟨-, e⟩ | ⟨-, e⟩ <;> cases e.symm.trans h
  · exact .branches a hb
  · exact .goesOn

theorem branchLink_effect {i : Instr} {s t : State} {rt : RegNum} {a : Word} (hb : i.isBranch = true)
    (hw : i.written = some rt) (h : branchLink rt a (ieForm i) s = .next t) : Effect i s t := by
  cases h; exact .links _ a hb hw

theorem branchLinkOnEvent_effect {i : Instr} {s t : State} {rt : RegNum} {a : Word} (hb : i.isBranch = true)
    (hw : i.written = some rt) (h : branchLinkOnEvent rt a (ieForm i) s = .next t) : Effect i s t := by
  rcases branchIf_cases s.eventCountNonzero a (ieForm i) (s.setReg rt (link s.pc)) with ⟨-, e⟩ | ⟨-, e⟩ <;>
    cases e.symm.trans h
  · exact .links _ a hb hw
  · exact .result _ hw

theorem interruptReturn_effect {i : Instr} {s t : State} (hb : i.isBranch = true)
    (h : interruptReturn (ieForm i) s = .next t) : Effect i s t := by
  cases h; exact .branches _ hb

theorem haltIf_effect {i : Instr} {s t : State} {condition : Bool} (hh : i.isStopOrHalt = true)
    (h : haltIf condition s = .next t) : Effect i s t := by
  rcases haltIf_cases condition s with ⟨-, e⟩ | ⟨-, e⟩ <;> cases e.symm.trans h
  · exact .halts hh
  · exact .goesOn

theorem stopWith_effect {i : Instr} {s t : State} {signal : BitVec 14} (hh : i.isStopOrHalt = true)
    (h : stopWith signal s = .next t) : Effect i s t := by
  cases h; exact .stops signal hh

/-! The instructions with a meaning of their own. -/

/-- The default write mask of `fscrwr` is all ones (R451, log 14). -/
theorem execFscrwr_eq (rc ra : RegNum) (s : State) :
    execFscrwr rc ra s = continueNext { s with fpscr := s.reg ra } := by
  have hmask (q p : Quad) : q &&& Config.fpscrWriteMask ||| p &&& ~~~Config.fpscrWriteMask = q := by
    rw [Config.fpscrWriteMask, BitVec.and_allOnes, BitVec.not_allOnes, BitVec.and_zero, BitVec.or_zero]
  rw [execFscrwr, hmask]

theorem execMfspr_effect {s t : State} {rt : RegNum} {n : SprNum} (h : execMfspr rt n s = .next t) :
    Effect (.mfspr rt n) s t := by
  unfold execMfspr at h
  split at h
  · exact writeResult_effect rfl h
  · cases h

theorem execMtspr_effect {s t : State} {n : SprNum} {ra : RegNum} (h : execMtspr n ra s = .next t) :
    Effect (.mtspr n ra) s t := by
  unfold execMtspr at h
  split at h
  · cases h; exact .writesSpr n _
  · cases h

/-- A count leaves the state alone, or draws a free value (R43; log 18). -/
theorem channelCount_state (s : State) (ch : ChNum) :
    (s.channelCount ch).2 = s ∨ (s.channelCount ch).2 = s.drawn := by
  unfold State.channelCount
  split
  · exact .inl rfl
  · exact .inr rfl

theorem execRchcnt_effect {s t : State} {rt : RegNum} {ch : ChNum} (h : execRchcnt rt ch s = .next t) :
    Effect (.rchcnt rt ch) s t := by
  unfold execRchcnt at h
  rcases channelCount_state s ch with e | e <;> rw [e] at h <;> cases h
  · exact .result _ rfl
  · exact .countsFree _ rfl

theorem execRdch_effect {s t : State} {rt : RegNum} {ch : ChNum} (h : execRdch rt ch s = .next t) :
    Effect (.rdch rt ch) s t := by
  unfold execRdch at h
  split at h
  · split at h
    · cases h; exact .readsChannel rfl ‹_›
    · cases h; exact .waits
  · cases h

theorem execWrch_effect {s t : State} {ch : ChNum} {ra : RegNum} (h : execWrch ch ra s = .next t) :
    Effect (.wrch ch ra) s t := by
  unfold execWrch at h
  split at h
  · split at h
    · cases h; exact .writesChannel rfl ‹_›
    · cases h; exact .waits
  · cases h

/-- Every instruction that completes has one of the effects, by the shared operation that is its meaning. -/
theorem exec_effect {i : Instr} {s t : State} (h : exec i s = .next t) : Effect i s t := by
  cases i
  case
    a | absdb | addx | ah | ahi | ai | avgb | bg | bgx | cg | cgx | clz | cntb | mpy | mpya | mpyh | mpyhh |
    mpyhha | mpyhhau | mpyhhu | mpyi | mpys | mpyu | mpyui | sf | sfh | sfhi | sfi | sfx | sumb | xsbh | xshw |
    xswd | and | andbi | andc | andhi | andi | eqv | nand | nor | or | orbi | orc | orhi | ori | orx | selb |
    xor | xorbi | xorhi | xori | cbd | cbx | cdd | cdx | chd | chx | cwd | cwx | fsm | fsmb | fsmbi | fsmh | gb
    | gbb | gbh | il | ila | ilh | ilhu | iohl | shufb | rot | roth | rothi | rothm | rothmi | roti | rotm |
    rotma | rotmah | rotmahi | rotmai | rotmi | rotqbi | rotqbii | rotqby | rotqbybi | rotqbyi | rotqmbi |
    rotqmbii | rotqmby | rotqmbybi | rotqmbyi | shl | shlh | shlhi | shli | shlqbi | shlqbii | shlqby | shlqbybi
    | shlqbyi | ceq | ceqb | ceqbi | ceqh | ceqhi | ceqi | cgt | cgtb | cgtbi | cgth | cgthi | cgti | clgt |
    clgtb | clgtbi | clgth | clgthi | clgti | fscrrd => exact writeResult_effect rfl h
  case
    cflts | cfltu | csflt | cuflt | dfa | dfm | dfma | dfms | dfnma | dfnms | dfs | fa | fceq | fcgt | fcmeq |
    fcmgt | fesd | fi | fm | fma | fms | fnms | frds | frest | frsqest | fs => exact fpResult_effect rfl h
  case lqa | lqd | lqr | lqx => exact loadFrom_effect rfl h
  case stqa | stqd | stqr | stqx => exact storeTo_effect rfl h
  case
    bihnz | bihnzd | bihnze | bihz | bihzd | bihze | binz | binzd | binze | biz | bizd | bize | brhnz | brhz |
    brnz | brz => exact branchIf_effect rfl h
  case bi | bid | bie | br | bra => exact branchIf_effect (taken := true) rfl h
  case bisl | bisld | bisle | brasl | brsl => exact branchLink_effect rfl rfl h
  case bisled | bisledd | bislede => exact branchLinkOnEvent_effect rfl rfl h
  case iret | iretd | irete => exact interruptReturn_effect rfl h
  case heq | heqi | hgt | hgti | hlgt | hlgti => exact haltIf_effect rfl h
  case stop | stopd => exact stopWith_effect rfl h
  case hbr | hbra | hbrp | hbrr | lnop | nop => exact continueNext_effect h
  case dsync => cases h; exact .completesStores
  case sync | syncc => cases h; exact .synchronizes
  case fscrwr rc ra => cases (execFscrwr_eq rc ra s).symm.trans h; exact .writesFpscr rfl
  case mfspr => exact execMfspr_effect h
  case mtspr => exact execMtspr_effect h
  case rchcnt => exact execRchcnt_effect h
  case rdch => exact execRdch_effect h
  case wrch => exact execWrch_effect h

/-! What each register of the machine may become. -/

/-- A form that changes IE is a `d` form, which clears it, or an `e` form, which sets it (R362). -/
theorem ieForm_changes {i : Instr} {b : Bool} (h : (ieForm i).apply b ≠ b) :
    (ieForm i).apply b = false ∧ i.disablesInterrupts = true ∨ (ieForm i).apply b = true ∧ i.enablesInterrupts = true := by
  unfold ieForm at *
  split at h
  · exact .inl ⟨by simp [*, IeChange.apply], ‹_›⟩
  · split at h
    · exact .inr ⟨by simp [*, IeChange.apply], ‹_›⟩
    · exact absurd rfl h

/-- Settles O54: of all effects only a taken branch and an interrupt return touch IE, and they apply the instruction's form. -/
theorem onlyTheseChangeIe : Obligations.OnlyTheseChangeIe := by
  intro i s t h hne
  cases exec_effect h with
  | branches | links => exact ieForm_changes hne
  | readsChannel _ hr =>
    obtain ⟨-, -, hie, -⟩ := channelRead_frame hr
    exact absurd hie hne
  | writesChannel _ hw =>
    obtain ⟨-, -, hie, -⟩ := channelWrite_frame hw
    exact absurd hie hne
  | _ => exact absurd rfl hne

theorem reg_congr {s t : State} (h : t.gpr = s.gpr) (r : RegNum) : t.reg r = s.reg r := by
  unfold State.reg
  simp only [h]

/-- Settles O57: every effect that writes a register names it as the instruction's target. -/
theorem onlyTheTargetIsWritten : Obligations.OnlyTheTargetIsWritten := by
  intro i s t r h hne
  have other {rt : RegNum} (hw : i.written = some rt) : r ≠ rt := fun e => hne (e ▸ hw)
  cases exec_effect h with
  | result v hw | links v _ _ hw | countsFree v hw => exact reg_setReg_ne _ v (other hw)
  | readsChannel hw hr =>
    obtain ⟨hgpr, -⟩ := channelRead_frame hr
    exact (reg_setReg_ne _ _ (other hw)).trans (reg_congr hgpr r)
  | writesChannel _ hw =>
    obtain ⟨hgpr, -⟩ := channelWrite_frame hw
    exact reg_congr hgpr r
  | _ => rfl

/-- Settles O58: an effect that moves the pc elsewhere is a branch's; one that leaves it stops, halts or waits. -/
theorem onlyBranchesMovePc : Obligations.OnlyBranchesMovePc := by
  intro i s t h hnb
  cases exec_effect h with
  | branches _ hb | links _ _ hb => exact absurd hb (by simp [hnb])
  | halts | stops => exact .inr ⟨rfl, .inl (by simp [stoppedBy])⟩
  | waits => exact .inr ⟨rfl, .inr rfl⟩
  | readsChannel _ hr =>
    obtain ⟨-, hpc, -⟩ := channelRead_frame hr
    exact .inl (congrArg nextPc hpc)
  | writesChannel _ hw =>
    obtain ⟨-, hpc, -⟩ := channelWrite_frame hw
    exact .inl (congrArg nextPc hpc)
  | _ => exact .inl rfl

/-- Only a write to channel 14 changes SRR0 (R41, R52). -/
theorem channelWrite_srr0 {s t : State} {ch : ChNum} {v : Word} (h : s.channelWrite ch v = some t) :
    t.srr0 = s.srr0 ∨ ch = 14 ∧ t.srr0 = v := by
  unfold State.channelWrite at h
  split at h
  case h_5 hch => cases h; exact .inr ⟨BitVec.eq_of_toNat_eq hch, rfl⟩
  case h_4 | h_11 | h_13 | h_15 | h_16 => split at h <;> cases h; exact .inl rfl
  all_goals cases h <;> exact .inl rfl

/-- Settles O59: each of the three registers has one effect that writes it. -/
theorem onlyTheseChangeSystemRegisters : Obligations.OnlyTheseChangeSystemRegisters := by
  intro i s t h
  cases exec_effect h with
  | writesFpscr hi => exact ⟨.inl rfl, .inr ⟨_, _, hi, rfl⟩, .inl rfl⟩
  | halts hh | stops _ hh => exact ⟨.inl rfl, .inl rfl, .inr hh⟩
  | readsChannel _ hr =>
    obtain ⟨-, -, -, hfpscr, hsrr0, -, -, hrun, -⟩ := channelRead_frame hr
    exact ⟨.inl hsrr0, .inl hfpscr, .inl hrun⟩
  | writesChannel hi hw =>
    obtain ⟨-, -, -, hfpscr, -, -, hrun, -⟩ := channelWrite_frame hw
    refine ⟨(channelWrite_srr0 hw).imp_right ?_, .inl hfpscr, .inl hrun⟩
    rintro ⟨rfl, hsrr0⟩
    exact ⟨_, hi, hsrr0⟩
  | _ => exact ⟨.inl rfl, .inl rfl, .inl rfl⟩

end Sys2Proof.Laws
end

section
/-! The invariant of the machine (R37, R70, R82): every effect of an instruction keeps it, and so does every action of an
outside agent; it holds after reset. -/

namespace Sys2Proof.Laws

open Sys2Proof.Machine

/-! Instructions. -/

/-- A store to an aligned quadword of local storage keeps the invariant (R70, R73). -/
theorem inv_storeQuad {s : State} (hs : s.Inv) {a : Nat} (ha : a % 16 = 0 ∧ a + 16 ≤ Config.lsSize) (v : Quad) :
    (s.storeQuad a v).Inv :=
  { hs with
    mem := wf_writeQuad hs.mem a v
    bounds := fun c hc => by
      rcases mem_writeBytes _ hc with h | h
      · rw [List.length_map, List.length_range] at h; omega
      · exact hs.bounds c h
    pending := fun x hx => by
      rcases List.mem_insert_iff.1 hx with rfl | hx
      · omega
      · exact hs.pending x hx
    unsynced := fun x hx => by
      rcases (mem_markAll _ _ x).1 hx with hx | hx
      · exact hs.unsynced x hx
      · simp only [wordsOfQuad, List.mem_cons, List.not_mem_nil, or_false] at hx
        omega }

/-- A channel read takes from the devices only, and opens no transfer (R44). -/
theorem inv_channelRead {s t : State} {ch : ChNum} {w : Word} (hs : s.Inv) (h : s.channelRead ch = some (w, t)) :
    t.Inv := by
  obtain ⟨-, hpc, -, -, -, -, -, -, -, hmem, hpending, hunsynced, -, -, -, -, -, hqueue, hmbox, -, -⟩ :=
    channelRead_frame h
  exact {
    pc := hpc ▸ hs.pc
    mem := hmem ▸ hs.mem
    bounds := hmem ▸ hs.bounds
    inMbox := hmbox.trans hs.inMbox
    queue := hqueue ▸ hs.queue
    transfers := fun x hx => hs.transfers x (channelRead_transfers h x hx)
    pending := hpending ▸ hs.pending
    unsynced := hunsynced ▸ hs.unsynced }

/-- A channel write enqueues no more than the MFC queue holds, and a transfer it opens has moved nothing (R45, R82). -/
theorem inv_channelWrite {s t : State} {ch : ChNum} {v : Word} (hs : s.Inv) (h : s.channelWrite ch v = some t) :
    t.Inv := by
  obtain ⟨-, hpc, -, -, -, -, -, -, hmem, hpending, hunsynced, -, -, hmbox, -, -, hqueue⟩ := channelWrite_frame h
  exact {
    pc := hpc ▸ hs.pc
    mem := hmem ▸ hs.mem
    bounds := hmem ▸ hs.bounds
    inMbox := hmbox ▸ hs.inMbox
    queue := hqueue hs.queue
    transfers := fun x hx => by
      rcases channelWrite_transfers h x hx with hx | hx
      · exact hs.transfers x hx
      · simp [hx]
    pending := hpending ▸ hs.pending
    unsynced := hunsynced ▸ hs.unsynced }

theorem inv_advance {s : State} (hs : s.Inv) : s.advance.Inv := { hs with pc := nextPc_legal hs.pc }

/-- A register is no part of the invariant. -/
theorem inv_setReg {s : State} (hs : s.Inv) (r : RegNum) (v : Quad) : (s.setReg r v).Inv := { hs with }

/-- Every instruction keeps the invariant, whatever its effect. -/
theorem exec_keeps_inv {i : Instr} {s t : State} (hs : s.Inv) (h : exec i s = .next t) : t.Inv := by
  cases exec_effect h with
  | goesOn | result | writesFpscr | writesSpr | countsFree => exact { hs with pc := nextPc_legal hs.pc }
  | branches a | links _ a => exact { hs with pc := target_legal a }
  | stores v a => exact inv_advance (inv_storeQuad hs (effAddr_legal a) v)
  | completesStores => exact inv_advance { hs with pending := nofun }
  | synchronizes => exact inv_advance { hs with pending := nofun, unsynced := nofun }
  | halts | stops => exact { hs with }
  | readsChannel _ hr => exact inv_advance (inv_setReg (inv_channelRead hs hr) _ _)
  | writesChannel _ hw => exact inv_advance (inv_channelWrite hs hw)
  | waits => exact hs

/-! Outside agents. -/

/-- A full mailbox takes nothing (R50; log 33). -/
theorem inv_mailIn {s : State} (hs : s.Inv) (w : Word) : (s.mailIn w).Inv := by
  unfold State.mailIn
  split
  · have hlen : (s.inMbox ++ [w]).length ≤ Config.inMboxDepth := by rw [List.length_append]; assumption
    exact { hs with inMbox := hlen }
  · exact hs

theorem inv_takeOutMbox {s : State} (hs : s.Inv) : s.takeOutMbox.Inv := by
  unfold State.takeOutMbox
  split
  exacts [{ hs with }, hs]

theorem inv_takeOutIntrMbox {s : State} (hs : s.Inv) : s.takeOutIntrMbox.Inv := by
  unfold State.takeOutIntrMbox
  split
  exacts [{ hs with }, hs]

theorem inv_answerTagUpdate {s : State} (hs : s.Inv) (w : Word) : (s.answerTagUpdate w).Inv := by
  unfold State.answerTagUpdate
  split
  exacts [{ hs with }, hs]

theorem inv_finishMsSync {s : State} (hs : s.Inv) : s.finishMsSync.Inv := by
  unfold State.finishMsSync
  split
  exacts [{ hs with }, hs]

/-- A command that leaves the queue makes it no longer (R52). -/
theorem inv_finishDma {s : State} (hs : s.Inv) (n : Nat) : (s.finishDma n).Inv := by
  unfold State.finishDma
  split
  · exact { hs with queue := (List.length_eraseIdx_le _ n).trans hs.queue }
  · exact hs

/-- Another agent writes inside local storage only, and marks the aligned word it writes to (R80, R82). -/
theorem inv_agentByte {s : State} (hs : s.Inv) (a : Nat) (b : Byte) : (s.agentByte a b).Inv := by
  unfold State.agentByte
  split
  · exact { hs with
      mem := wf_write hs.mem a b
      bounds := fun c hc => by
        rcases mem_write hc with rfl | hc
        · assumption
        · exact hs.bounds c hc
      unsynced := fun x hx => by
        rcases List.mem_insert_iff.1 hx with rfl | hx
        · omega
        · exact hs.unsynced x hx }
  · exact hs

theorem inv_agentBytes (cells : List Host.Cell) {s : State} (hs : s.Inv) : (s.agentBytes cells).Inv := by
  induction cells generalizing s with
  | nil => exact hs
  | cons c cells ih => exact ih (inv_agentByte hs c.1 c.2)

theorem inv_agentWrite {s : State} (hs : s.Inv) (a : Nat) (bytes : List Byte) : (s.agentWrite a bytes).Inv := by
  unfold State.agentWrite
  split
  · exact inv_agentBytes _ hs
  · exact hs

/-- The bytes that one access of a transfer moves are different bytes (R83). -/
theorem access_nodup (t : Transfer) (k : Nat) : (t.access k).Nodup := by
  unfold Transfer.access
  split
  · exact List.nodup_range.filter _
  · exact List.nodup_singleton k

/-- The bytes that one access of a transfer moves are bytes of the transfer (R83). -/
theorem lt_size_of_mem_access {t : Transfer} {j k : Nat} (hk : k < t.size) (h : j ∈ t.access k) : j < t.size := by
  unfold Transfer.access at h
  split at h
  · exact List.mem_range.1 (List.mem_of_mem_filter h)
  · exact List.mem_singleton.1 h ▸ hk

/-- An access that a transfer may make moves no byte a second time, and only bytes of the transfer (R82). -/
theorem moved_access {t : Transfer} {k : Nat} (ht : t.moved.Nodup ∧ ∀ j ∈ t.moved, j < t.size) (hm : t.mayMove k = true) :
    (t.access k ++ t.moved).Nodup ∧ ∀ j ∈ t.access k ++ t.moved, j < t.size := by
  obtain ⟨hnodup, hsize⟩ := ht
  obtain ⟨-, hk, hnew⟩ := of_decide_eq_true hm
  refine ⟨List.nodup_append'.2 ⟨access_nodup t k, hnodup, hnew⟩, fun j hj => ?_⟩
  rcases List.mem_append.1 hj with hj | hj
  · exact lt_size_of_mem_access hk hj
  · exact hsize j hj

theorem inv_dmaMove {s : State} (hs : s.Inv) (n k : Nat) (bytes : List Byte) : (s.dmaMove n k bytes).Inv := by
  rcases dmaMove_cases s n k bytes with h | ⟨t, ht, hm, h⟩
  · exact h.symm ▸ hs
  · have hafter : State.Inv { s with mfc := { s.mfc with
        transfers := s.mfc.transfers.set n { t with moved := t.access k ++ t.moved } } } :=
      { hs with
        transfers := fun x hx => by
          rcases List.mem_or_eq_of_mem_set hx with hx | rfl
          · exact hs.transfers x hx
          · exact moved_access (hs.transfers t (List.mem_of_getElem? ht)) hm }
    rcases h with h | ⟨-, h⟩ <;> rw [h]
    · exact hafter
    · exact inv_agentBytes _ hafter

/-- Every action of an outside agent keeps the invariant. -/
theorem inv_deliver {s : State} (hs : s.Inv) (a : EnvAction) : (s.deliver a).Inv := by
  cases a with
  | quiet => exact hs
  | raiseEvent | signal1 | signal2 | listStall | atomicStatus => exact { hs with }
  | mailIn w => exact inv_mailIn hs w
  | takeOutMbox => exact inv_takeOutMbox hs
  | takeOutIntrMbox => exact inv_takeOutIntrMbox hs
  | tagStatus w => exact inv_answerTagUpdate hs w
  | msSyncDone => exact inv_finishMsSync hs
  | dmaDone n => exact inv_finishDma hs n
  | dmaMove n k bytes => exact inv_dmaMove hs n k bytes
  | agentWrite a bytes => exact inv_agentWrite hs a bytes
  | storeDone a => exact { hs with pending := fun x hx => hs.pending x (List.mem_of_mem_filter hx) }
  | interrupt =>
    rw [State.deliver]
    split
    · exact { hs with pc := intVector_legal }
    · exact hs

/-! The step. -/

/-- Running one instruction keeps the invariant: a stopped or halted SPU stays as it is. -/
theorem runInstruction_keeps_inv {s t : State} (hs : s.Inv) (h : runInstruction s = .next t) : t.Inv := by
  by_cases hr : s.run = .running
  · cases hf : s.fetch with
    | next i => exact exec_keeps_inv hs ((runInstruction_of_fetch hr hf).symm.trans h)
    | fault r => simp [runInstruction, hr, hf] at h
    | refused r => simp [runInstruction, hr, hf] at h
  · cases (runInstruction_of_not_running hr).symm.trans h
    exact hs

/-- Settles O48: a step delivers one action or runs one instruction, and each keeps the invariant. -/
theorem stepKeepsInvariant : Obligations.StepKeepsInvariant := by
  intro s t hs h
  have hlater (later : List EnvAction) : State.Inv { s with env := later } := { hs with }
  rcases step_cases s with ⟨-, e⟩ | ⟨later, -, e⟩ | ⟨a, later, -, -, e⟩ <;> rw [e] at h
  · exact runInstruction_keeps_inv hs h
  · exact runInstruction_keeps_inv (hlater later) h
  · cases h
    exact inv_deliver (hlater later) a

/-- Settles O49: the launch state has its pc at the legal entry address and everything else empty. -/
theorem resetHasInvariant : Obligations.ResetHasInvariant where
  pc := by decide
  mem := wf_reset
  bounds := nofun
  inMbox := by decide
  queue := by decide
  transfers := nofun
  pending := nofun
  unsynced := nofun

/-- Settles O50: the fields as the launch state sets them, every register 0 and every byte of the empty storage 0. -/
theorem resetState : Obligations.ResetState :=
  ⟨rfl, rfl, rfl, rfl, rfl, reg_reset, fun _ => rfl, rfl, rfl, rfl, rfl, rfl, rfl, rfl⟩

/-- Settles O45: with nothing due the step is `runInstruction`, and the fetch answers what the bytes decode to. -/
theorem stepRunsDecoded : Obligations.StepRunsDecoded := by
  intro s i rest hr hstale henv hdec
  have hfetch : s.fetch = .next i := by simp [State.fetch, hstale, hdec]
  refine ⟨?_, fun later => runInstruction_of_fetch (s := { s with env := later }) hr hfetch⟩
  simp [step, henv, runInstruction_of_fetch hr hfetch]

end Sys2Proof.Laws
end

section
/-! The channels (R43 to R52, R460): the counts, the reads and the writes that never wait, and the channels that are refused;
and the addresses of branches, loads and stores (R360, R400). -/

namespace Sys2Proof.Laws

open Sys2Proof.Machine

/-! A word put into word element 0 of a register. -/

/-- The state after an instruction that puts `w` into word element 0 of rt, 0 into the others, and nothing else into `u`. -/
theorem inWord0_written (rt : RegNum) (w : Word) (u : State) :
    (∀ k : Fin 4, (u.setReg rt (inWord0 w)).advance.word rt k = if k.val = 0 then w else 0) ∧
      onlyReg rt u (u.setReg rt (inWord0 w)).advance := by
  refine ⟨fun k => ?_, onlyReg_write rt _ u⟩
  rw [State.word, reg_advance, reg_setReg_self, wordAt_inWord0 w k.isLt]

/-! Counts. -/

/-- The channels on which an access can wait (R46, log 17). -/
theorem channelBlocking_eq : ∀ ch : ChNum,
    channelBlocking ch = decide (ch.toNat ∈ [0, 3, 4, 9, 21, 23, 24, 25, 27, 28, 29, 30]) := by decide

theorem entries_eq (o : Option Word) : entries o = if o = none then 0 else 1 := by
  cases o <;> rfl

theorem one_sub_entries (o : Option Word) : 1 - entries o = if o = none then 1 else 0 := by
  cases o <;> rfl

theorem exec_rchcnt (rt : RegNum) (ch : ChNum) (s : State) :
    exec (.rchcnt rt ch) s = .next ((s.channelCount ch).2.setReg rt (inWord0 (s.channelCount ch).1)).advance := rfl

/-- `rchcnt` puts the count into word element 0 of rt and leaves the rest as counting left it (R43, R466). -/
theorem rchcnt_completes {s u : State} {ch : ChNum} {w : Word} (rt : RegNum) (h : s.channelCount ch = (w, u)) :
    completes (.rchcnt rt ch) s fun t => (∀ k : Fin 4, t.word rt k = if k.val = 0 then w else 0) ∧ onlyReg rt u t :=
  ⟨_, by rw [exec_rchcnt, h], inWord0_written rt w u⟩

/-- The count of a blocking channel goes to rt, and only rt changes (R43, R466). -/
theorem rchcnt_blocking {s : State} {ch : ChNum} {n : Nat} (rt : RegNum) (hb : channelBlocking ch = true)
    (hn : s.blockingCount ch = n) :
    setsWords (.rchcnt rt ch) rt s fun k => if k = 0 then BitVec.ofNat 32 n else 0 :=
  rchcnt_completes rt (by simp [State.channelCount, hb, hn])

/-- Settles O38: any channel by whether it blocks; each blocking channel by what its device holds. -/
theorem channelCounts : Obligations.ChannelCounts := by
  intro s rt ch blocking count counts
  have hcount : s.channelCount ch = (count, if blocking then s else s.drawn) := by
    unfold State.channelCount
    rw [channelBlocking_eq]
    by_cases hb : blocking = true
    · simp only [count, if_pos hb]; exact if_pos hb
    · simp only [count, if_neg hb]; exact if_neg hb
  exact ⟨rchcnt_completes rt hcount, rchcnt_blocking rt (by decide) rfl, rchcnt_blocking rt (by decide) (entries_eq _),
    rchcnt_blocking rt (by decide) (entries_eq _), rchcnt_blocking rt (by decide) (one_sub_entries _),
    rchcnt_blocking rt (by decide) rfl, rchcnt_blocking rt (by decide) (one_sub_entries _),
    rchcnt_blocking rt (by decide) (entries_eq _), rchcnt_blocking rt (by decide) (entries_eq _),
    rchcnt_blocking rt (by decide) (entries_eq _), rchcnt_blocking rt (by decide) (one_sub_entries _),
    rchcnt_blocking rt (by decide) rfl, rchcnt_blocking rt (by decide) (one_sub_entries _)⟩

/-! Reads. -/

/-- A read that completes puts the word into word element 0 of rt and leaves the rest as the channel left it (R44, R467). -/
theorem rdch_completes {s u : State} {ch : ChNum} {w : Word} (rt : RegNum) (hr : channelReadable ch = true)
    (h : s.channelRead ch = some (w, u)) :
    completes (.rdch rt ch) s fun t => (∀ k : Fin 4, t.word rt k = if k.val = 0 then w else 0) ∧ onlyReg rt u t :=
  ⟨_, exec_rdch_some rt hr h, inWord0_written rt w u⟩

/-- Settles O39, channel by channel from what each read takes. -/
theorem consumingReads : Obligations.ConsumingReads := by
  intro s rt w more inRt shown
  refine ⟨rdch_completes rt (by decide) rfl, rdch_completes rt (by decide) rfl, rdch_completes rt (by decide) rfl,
    rdch_completes rt (by decide) rfl, fun x hx => ?_, rdch_completes rt (by decide) rfl,
    rdch_completes rt (by decide) rfl⟩
  cases hu : x.unfinished with
  | true => exact .inl (reportedTags_unfinished w hx hu)
  | false => exact .inr rfl

/-- Settles O40: each read answers the device's word, which `rdch_completes` puts into rt. -/
theorem plainReads : Obligations.PlainReads := by
  intro s rt
  refine ⟨rdch_completes rt (by decide) rfl, rdch_completes rt (by decide) rfl, rdch_completes rt (by decide) rfl,
    ?_, ?_, fun hpending => ?_⟩
  · obtain ⟨t, ht, hwords, honly⟩ := rdch_completes rt (s := s) (ch := 13) (by decide) rfl
    refine ⟨t, ht, ?_, hwords 1, hwords 2, hwords 3, honly⟩
    have hword : t.word rt 0 = Config.machineStatus s.draws ++ BitVec.ofBool s.ie := hwords 0
    rw [hword, BitVec.getLsbD_append]
    cases s.ie <;> rfl
  · obtain ⟨t, ht, hwords, honly⟩ := rdch_completes rt (s := s) (ch := 8) (by decide) rfl
    exact ⟨t, ht, hwords 1, hwords 2, hwords 3, honly⟩
  · exact rdch_completes rt (by decide) (if_neg hpending)

/-! Writes, and the channels that are refused. -/

/-- Settles O41: none of these writes can be turned away. -/
theorem plainWrites : Obligations.PlainWrites := by
  intro s ra
  exact ⟨exec_wrch_some (ch := 1) (by decide) rfl, exec_wrch_some (ch := 2) (by decide) rfl,
    exec_wrch_some (ch := 7) (by decide) rfl, exec_wrch_some (ch := 14) (by decide) rfl,
    exec_wrch_some (ch := 16) (by decide) rfl, exec_wrch_some (ch := 17) (by decide) rfl,
    exec_wrch_some (ch := 18) (by decide) rfl, exec_wrch_some (ch := 19) (by decide) rfl,
    exec_wrch_some (ch := 20) (by decide) rfl, exec_wrch_some (ch := 22) (by decide) rfl,
    exec_wrch_some (ch := 26) (by decide) rfl⟩

/-- `rdch` refuses exactly the channels that are not readable (R460 a). -/
theorem exec_rdch_refused_iff (s : State) (rt : RegNum) (ch : ChNum) :
    exec (.rdch rt ch) s = .refused (.channelNotReadable ch) ↔ channelReadable ch = false := by
  rw [exec_rdch, execRdch]
  cases channelReadable ch
  · simp
  · cases s.channelRead ch <;> simp [stall, writeResult]

/-- `wrch` refuses exactly the channels that are not writable (R460 a). -/
theorem exec_wrch_refused_iff (s : State) (ra : RegNum) (ch : ChNum) :
    exec (.wrch ch ra) s = .refused (.channelNotWritable ch) ↔ channelWritable ch = false := by
  rw [exec_wrch, execWrch]
  cases channelWritable ch
  · simp
  · cases s.channelWrite ch (s.scalarReg ra) <;> simp [stall, continueNext]

/-- The channels that the table does not mark readable (R46). -/
theorem not_channelReadable_iff : ∀ ch : ChNum, channelReadable ch = false ↔
    ch.toNat ∈ [1, 2, 5, 6, 7, 9, 10, 14, 16, 17, 18, 19, 20, 21, 22, 23, 26, 28] ∨ 30 ≤ ch.toNat := by decide

/-- The channels that the table does not mark writable (R46). -/
theorem not_channelWritable_iff : ∀ ch : ChNum, channelWritable ch = false ↔
    ch.toNat ∈ [0, 3, 4, 5, 6, 8, 10, 11, 12, 13, 15, 24, 25, 27, 29] ∨ 31 ≤ ch.toNat := by decide

/-- Settles O44: an instruction refuses what its column of the table does not mark. -/
theorem refusedChannels : Obligations.RefusedChannels := by
  intro s r ch
  exact ⟨((exec_rdch_refused_iff s r ch).trans (not_channelReadable_iff ch)).symm,
    ((exec_wrch_refused_iff s r ch).trans (not_channelWritable_iff ch)).symm⟩

/-! Addresses. -/

/-- Clearing the low `n` bits takes the remainder modulo 2^n off the signed value. -/
theorem toInt_clearLow {w n : Nat} (x : BitVec w) (h : n < w) :
    (x &&& BitVec.allOnes w <<< n).toInt = x.toInt - x.toInt % 2 ^ n := by
  have hw : 2 ^ w = 2 * 2 ^ (w - 1 - n) * 2 ^ n := by
    rw [mul_assoc, ← pow_add, ← pow_succ']
    congr 1
    omega
  have hlt : x.toNat / 2 ^ n * 2 ^ n < 2 ^ w := (Nat.div_mul_le_self _ _).trans_lt x.isLt
  have hsign : 2 * (x.toNat / 2 ^ n * 2 ^ n) < 2 ^ w ↔ 2 * x.toNat < 2 ^ w := by
    rw [hw, mul_assoc, Nat.mul_lt_mul_left two_pos, Nat.mul_lt_mul_left two_pos,
      Nat.mul_lt_mul_right (by positivity), Nat.div_lt_iff_lt_mul (by positivity)]
  have hrest : (x.toNat : Int) / 2 ^ n * 2 ^ n = x.toNat - (x.toNat : Int) % 2 ^ n := by
    rw [eq_sub_iff_add_eq, mul_comm]
    exact Int.mul_ediv_add_emod _ _
  rw [← BitVec.shiftLeft_ushiftRight]
  simp only [BitVec.toInt_eq_toNat_cond, BitVec.toNat_shiftLeft, BitVec.toNat_ushiftRight,
    Nat.shiftRight_eq_div_pow, Nat.shiftLeft_eq, Nat.mod_eq_of_lt hlt, hsign]
  split
  · push_cast
    exact hrest
  · rw [hw]
    push_cast
    rw [Int.sub_mul_emod_self_right, hrest]
    ring

/-- Settles O22: each address by its value modulo the size of local storage. -/
theorem addresses : Obligations.Addresses := by
  intro t pc s18 s14
  refine ⟨?_, ?_, nextPc_toNat pc, ?_, ?_⟩
  · rw [target_toNat, Config.lsSize]; omega
  · rw [effAddr, Config.lsSize]; omega
  · rw [s18Word, BitVec.toInt_signExtend_of_le (by decide)]
    exact toInt_clearLow s18 (n := 2) (by decide)
  · rw [s14Word, BitVec.toInt_signExtend_of_le (by decide)]
    exact toInt_clearLow s14 (n := 4) (by decide)

end Sys2Proof.Laws
end

section
/-! Local storage and the bytes of instructions (R70 to R80, R140 to R142, R400): what a store leaves behind for every load
after it, what no other instruction can do to storage, the bytes of an instruction decoded again, and the fetches that stop
the machine. -/

namespace Sys2Proof.Laws

open Sys2Proof.Machine

/-! The bytes of an instruction. -/

/-- A word is put together again from the bytes that storage holds of it (R71, R76). -/
theorem wordOfBytes_byteOfWord (w : Word) :
    wordOfBytes (byteOfWord w 0) (byteOfWord w 1) (byteOfWord w 2) (byteOfWord w 3) = w := by
  unfold wordOfBytes byteOfWord
  rw [BitVec.extractLsb'_append_extractLsb'_eq_extractLsb' (by decide),
    BitVec.extractLsb'_append_extractLsb'_eq_extractLsb' (by decide),
    BitVec.extractLsb'_append_extractLsb'_eq_extractLsb' (by decide)]
  exact BitVec.extractLsb'_eq_self

/-- Decoding the bytes of a word decodes the word, and leaves the bytes that follow (R100). -/
theorem decode_bytesOfWord {w : Word} {i : Instr} (rest : List Byte) (h : decodeWord w = .ok i) :
    decode (bytesOfWord w ++ rest) = .ok (i, rest) := by
  simp only [bytesOfWord, List.cons_append, List.nil_append, decode, wordOfBytes_byteOfWord, h]

/-- The word of a well-formed instruction decodes to it: the lemma of its row of the opcode table (R141). -/
theorem decodeWord_encode : ∀ i : Instr, RoundTrip.Statement i
  | .a .. => RoundTrip.a _ _ _ | .absdb .. => RoundTrip.absdb _ _ _ | .addx .. => RoundTrip.addx _ _ _
  | .ah .. => RoundTrip.ah _ _ _ | .ahi .. => RoundTrip.ahi _ _ _ | .ai .. => RoundTrip.ai _ _ _
  | .avgb .. => RoundTrip.avgb _ _ _ | .bg .. => RoundTrip.bg _ _ _ | .bgx .. => RoundTrip.bgx _ _ _
  | .cg .. => RoundTrip.cg _ _ _ | .cgx .. => RoundTrip.cgx _ _ _ | .clz .. => RoundTrip.clz _ _
  | .cntb .. => RoundTrip.cntb _ _ | .mpy .. => RoundTrip.mpy _ _ _ | .mpya .. => RoundTrip.mpya _ _ _ _
  | .mpyh .. => RoundTrip.mpyh _ _ _ | .mpyhh .. => RoundTrip.mpyhh _ _ _ | .mpyhha .. => RoundTrip.mpyhha _ _ _
  | .mpyhhau .. => RoundTrip.mpyhhau _ _ _ | .mpyhhu .. => RoundTrip.mpyhhu _ _ _ | .mpyi .. => RoundTrip.mpyi _ _ _
  | .mpys .. => RoundTrip.mpys _ _ _ | .mpyu .. => RoundTrip.mpyu _ _ _ | .mpyui .. => RoundTrip.mpyui _ _ _
  | .sf .. => RoundTrip.sf _ _ _ | .sfh .. => RoundTrip.sfh _ _ _ | .sfhi .. => RoundTrip.sfhi _ _ _
  | .sfi .. => RoundTrip.sfi _ _ _ | .sfx .. => RoundTrip.sfx _ _ _ | .sumb .. => RoundTrip.sumb _ _ _
  | .xsbh .. => RoundTrip.xsbh _ _ | .xshw .. => RoundTrip.xshw _ _ | .xswd .. => RoundTrip.xswd _ _
  | .and .. => RoundTrip.and _ _ _ | .andbi .. => RoundTrip.andbi _ _ _ | .andc .. => RoundTrip.andc _ _ _
  | .andhi .. => RoundTrip.andhi _ _ _ | .andi .. => RoundTrip.andi _ _ _ | .eqv .. => RoundTrip.eqv _ _ _
  | .nand .. => RoundTrip.nand _ _ _ | .nor .. => RoundTrip.nor _ _ _ | .or .. => RoundTrip.or _ _ _
  | .orbi .. => RoundTrip.orbi _ _ _ | .orc .. => RoundTrip.orc _ _ _ | .orhi .. => RoundTrip.orhi _ _ _
  | .ori .. => RoundTrip.ori _ _ _ | .orx .. => RoundTrip.orx _ _ | .selb .. => RoundTrip.selb _ _ _ _
  | .xor .. => RoundTrip.xor _ _ _ | .xorbi .. => RoundTrip.xorbi _ _ _ | .xorhi .. => RoundTrip.xorhi _ _ _
  | .xori .. => RoundTrip.xori _ _ _ | .cbd .. => RoundTrip.cbd _ _ _ | .cbx .. => RoundTrip.cbx _ _ _
  | .cdd .. => RoundTrip.cdd _ _ _ | .cdx .. => RoundTrip.cdx _ _ _ | .chd .. => RoundTrip.chd _ _ _
  | .chx .. => RoundTrip.chx _ _ _ | .cwd .. => RoundTrip.cwd _ _ _ | .cwx .. => RoundTrip.cwx _ _ _
  | .fsm .. => RoundTrip.fsm _ _ | .fsmb .. => RoundTrip.fsmb _ _ | .fsmbi .. => RoundTrip.fsmbi _ _
  | .fsmh .. => RoundTrip.fsmh _ _ | .gb .. => RoundTrip.gb _ _ | .gbb .. => RoundTrip.gbb _ _
  | .gbh .. => RoundTrip.gbh _ _ | .il .. => RoundTrip.il _ _ | .ila .. => RoundTrip.ila _ _
  | .ilh .. => RoundTrip.ilh _ _ | .ilhu .. => RoundTrip.ilhu _ _ | .iohl .. => RoundTrip.iohl _ _
  | .shufb .. => RoundTrip.shufb _ _ _ _ | .rot .. => RoundTrip.rot _ _ _ | .roth .. => RoundTrip.roth _ _ _
  | .rothi .. => RoundTrip.rothi _ _ _ | .rothm .. => RoundTrip.rothm _ _ _ | .rothmi .. => RoundTrip.rothmi _ _ _
  | .roti .. => RoundTrip.roti _ _ _ | .rotm .. => RoundTrip.rotm _ _ _ | .rotma .. => RoundTrip.rotma _ _ _
  | .rotmah .. => RoundTrip.rotmah _ _ _ | .rotmahi .. => RoundTrip.rotmahi _ _ _
  | .rotmai .. => RoundTrip.rotmai _ _ _ | .rotmi .. => RoundTrip.rotmi _ _ _ | .rotqbi .. => RoundTrip.rotqbi _ _ _
  | .rotqbii .. => RoundTrip.rotqbii _ _ _ | .rotqby .. => RoundTrip.rotqby _ _ _
  | .rotqbybi .. => RoundTrip.rotqbybi _ _ _ | .rotqbyi .. => RoundTrip.rotqbyi _ _ _
  | .rotqmbi .. => RoundTrip.rotqmbi _ _ _ | .rotqmbii .. => RoundTrip.rotqmbii _ _ _
  | .rotqmby .. => RoundTrip.rotqmby _ _ _ | .rotqmbybi .. => RoundTrip.rotqmbybi _ _ _
  | .rotqmbyi .. => RoundTrip.rotqmbyi _ _ _ | .shl .. => RoundTrip.shl _ _ _ | .shlh .. => RoundTrip.shlh _ _ _
  | .shlhi .. => RoundTrip.shlhi _ _ _ | .shli .. => RoundTrip.shli _ _ _ | .shlqbi .. => RoundTrip.shlqbi _ _ _
  | .shlqbii .. => RoundTrip.shlqbii _ _ _ | .shlqby .. => RoundTrip.shlqby _ _ _
  | .shlqbybi .. => RoundTrip.shlqbybi _ _ _ | .shlqbyi .. => RoundTrip.shlqbyi _ _ _
  | .ceq .. => RoundTrip.ceq _ _ _ | .ceqb .. => RoundTrip.ceqb _ _ _ | .ceqbi .. => RoundTrip.ceqbi _ _ _
  | .ceqh .. => RoundTrip.ceqh _ _ _ | .ceqhi .. => RoundTrip.ceqhi _ _ _ | .ceqi .. => RoundTrip.ceqi _ _ _
  | .cgt .. => RoundTrip.cgt _ _ _ | .cgtb .. => RoundTrip.cgtb _ _ _ | .cgtbi .. => RoundTrip.cgtbi _ _ _
  | .cgth .. => RoundTrip.cgth _ _ _ | .cgthi .. => RoundTrip.cgthi _ _ _ | .cgti .. => RoundTrip.cgti _ _ _
  | .clgt .. => RoundTrip.clgt _ _ _ | .clgtb .. => RoundTrip.clgtb _ _ _ | .clgtbi .. => RoundTrip.clgtbi _ _ _
  | .clgth .. => RoundTrip.clgth _ _ _ | .clgthi .. => RoundTrip.clgthi _ _ _ | .clgti .. => RoundTrip.clgti _ _ _
  | .heq .. => RoundTrip.heq _ _ _ | .heqi .. => RoundTrip.heqi _ _ _ | .hgt .. => RoundTrip.hgt _ _ _
  | .hgti .. => RoundTrip.hgti _ _ _ | .hlgt .. => RoundTrip.hlgt _ _ _ | .hlgti .. => RoundTrip.hlgti _ _ _
  | .bi .. => RoundTrip.bi _ | .bid .. => RoundTrip.bid _ | .bie .. => RoundTrip.bie _
  | .bihnz .. => RoundTrip.bihnz _ _ | .bihnzd .. => RoundTrip.bihnzd _ _ | .bihnze .. => RoundTrip.bihnze _ _
  | .bihz .. => RoundTrip.bihz _ _ | .bihzd .. => RoundTrip.bihzd _ _ | .bihze .. => RoundTrip.bihze _ _
  | .binz .. => RoundTrip.binz _ _ | .binzd .. => RoundTrip.binzd _ _ | .binze .. => RoundTrip.binze _ _
  | .bisl .. => RoundTrip.bisl _ _ | .bisld .. => RoundTrip.bisld _ _ | .bisle .. => RoundTrip.bisle _ _
  | .bisled .. => RoundTrip.bisled _ _ | .bisledd .. => RoundTrip.bisledd _ _ | .bislede .. => RoundTrip.bislede _ _
  | .biz .. => RoundTrip.biz _ _ | .bizd .. => RoundTrip.bizd _ _ | .bize .. => RoundTrip.bize _ _
  | .br .. => RoundTrip.br _ | .bra .. => RoundTrip.bra _ | .brasl .. => RoundTrip.brasl _ _
  | .brhnz .. => RoundTrip.brhnz _ _ | .brhz .. => RoundTrip.brhz _ _ | .brnz .. => RoundTrip.brnz _ _
  | .brsl .. => RoundTrip.brsl _ _ | .brz .. => RoundTrip.brz _ _ | .hbr .. => RoundTrip.hbr _ _
  | .hbra .. => RoundTrip.hbra _ _ | .hbrp => RoundTrip.hbrp | .hbrr .. => RoundTrip.hbrr _ _
  | .iret .. => RoundTrip.iret _ | .iretd .. => RoundTrip.iretd _ | .irete .. => RoundTrip.irete _
  | .lqa .. => RoundTrip.lqa _ _ | .lqd .. => RoundTrip.lqd _ _ _ | .lqr .. => RoundTrip.lqr _ _
  | .lqx .. => RoundTrip.lqx _ _ _ | .stqa .. => RoundTrip.stqa _ _ | .stqd .. => RoundTrip.stqd _ _ _
  | .stqr .. => RoundTrip.stqr _ _ | .stqx .. => RoundTrip.stqx _ _ _ | .cflts .. => RoundTrip.cflts _ _ _
  | .cfltu .. => RoundTrip.cfltu _ _ _ | .csflt .. => RoundTrip.csflt _ _ _ | .cuflt .. => RoundTrip.cuflt _ _ _
  | .dfa .. => RoundTrip.dfa _ _ _ | .dfm .. => RoundTrip.dfm _ _ _ | .dfma .. => RoundTrip.dfma _ _ _
  | .dfms .. => RoundTrip.dfms _ _ _ | .dfnma .. => RoundTrip.dfnma _ _ _ | .dfnms .. => RoundTrip.dfnms _ _ _
  | .dfs .. => RoundTrip.dfs _ _ _ | .fa .. => RoundTrip.fa _ _ _ | .fceq .. => RoundTrip.fceq _ _ _
  | .fcgt .. => RoundTrip.fcgt _ _ _ | .fcmeq .. => RoundTrip.fcmeq _ _ _ | .fcmgt .. => RoundTrip.fcmgt _ _ _
  | .fesd .. => RoundTrip.fesd _ _ | .fi .. => RoundTrip.fi _ _ _ | .fm .. => RoundTrip.fm _ _ _
  | .fma .. => RoundTrip.fma _ _ _ _ | .fms .. => RoundTrip.fms _ _ _ _ | .fnms .. => RoundTrip.fnms _ _ _ _
  | .frds .. => RoundTrip.frds _ _ | .frest .. => RoundTrip.frest _ _ | .frsqest .. => RoundTrip.frsqest _ _
  | .fs .. => RoundTrip.fs _ _ _ | .fscrrd .. => RoundTrip.fscrrd _ | .fscrwr .. => RoundTrip.fscrwr _ _
  | .dsync => RoundTrip.dsync | .lnop => RoundTrip.lnop | .mfspr .. => RoundTrip.mfspr _ _
  | .mtspr .. => RoundTrip.mtspr _ _ | .nop .. => RoundTrip.nop _ | .rchcnt .. => RoundTrip.rchcnt _ _
  | .rdch .. => RoundTrip.rdch _ _ | .stop .. => RoundTrip.stop _ | .stopd .. => RoundTrip.stopd _ _ _
  | .sync => RoundTrip.sync | .syncc => RoundTrip.syncc | .wrch .. => RoundTrip.wrch _ _

/-- Settles O47: the word decodes row by row, and its bytes are the word again. -/
theorem decodeEncode : Obligations.DecodeEncode := by
  intro i rest hwf
  exact decode_bytesOfWord rest (decodeWord_encode i hwf)

/-! Stores, and the loads after them. -/

/-- The marks a store leaves: its quadword is pending, and its four words are stale (R53, R80). -/
theorem storeQuad_marks (s : State) (ea : Nat) (v : Quad) :
    (∀ a, a ∈ (s.storeQuad ea v).pendingStores ↔ a ∈ s.pendingStores ∨ a = ea) ∧
    (∀ a, a ∈ (s.storeQuad ea v).unsynced ↔ a ∈ s.unsynced ∨ a = ea ∨ a = ea + 4 ∨ a = ea + 8 ∨ a = ea + 12) := by
  constructor <;> intro a
  · rw [storeQuad_pendingStores, List.mem_insert_iff, or_comm]
  · simp [mem_markAll, wordsOfQuad]

/-- An instruction whose meaning is `storeTo` stores its register at the effective address, and nothing else (R401). -/
theorem stores_of_storeTo {i : Instr} {s : State} {rc : RegNum} {a : Word} (h : exec i s = storeTo rc a s) :
    stores i rc s (effAddr a) := by
  obtain ⟨t, ht, hquad, houtside, hregs, hpc, hie, hfpscr, hsystem⟩ := storeTo_spec rc a s
  obtain ⟨hpending, hunsynced⟩ := storeQuad_marks s (effAddr a) (s.reg rc)
  refine ⟨t, h.trans ht, fun k => ?_, houtside, ?_⟩
  · rw [← byteAt_readQuad _ _ k.isLt, hquad]
  · cases ht
    exact ⟨hpending, hunsynced, hpc, hregs, hie, hfpscr, hsystem⟩

/-- Settles O29: the meaning of each of the four is `storeTo` at the address it computes. -/
theorem stores : Obligations.Stores := by
  intro s rc ra rb s18 s14
  exact ⟨stores_of_storeTo rfl, stores_of_storeTo rfl, stores_of_storeTo rfl, stores_of_storeTo rfl⟩

/-- What stores a register at an address does so by `storeTo` (R406 to R409). -/
theorem exec_of_storesAt {i : Instr} {s : State} {rc : RegNum} {ea : Nat} (h : i.storesAt s = some (rc, ea)) :
    ∃ a, ea = effAddr a ∧ exec i s = storeTo rc a s := by
  cases i
  case stqa | stqd | stqr | stqx => cases h; exact ⟨_, rfl, rfl⟩
  all_goals cases h

/-- What loads a register from an address does so by `loadFrom` (R402 to R405). -/
theorem exec_of_loadsAt {i : Instr} {s : State} {rt : RegNum} {ea : Nat} (h : i.loadsAt s = some (rt, ea)) :
    ∃ a, ea = effAddr a ∧ exec i s = loadFrom rt a s := by
  cases i
  case lqa | lqd | lqr | lqx => cases h; exact ⟨_, rfl, rfl⟩
  all_goals cases h

/-- Settles O30: the store leaves the register's value as the quadword at its address, and the load takes that quadword. -/
theorem loadAfterStore : Obligations.LoadAfterStore := by
  intro s t st ld rc rt ea hst hnext hld
  obtain ⟨a, rfl, hstore⟩ := exec_of_storesAt hst
  obtain ⟨b, hea, hload⟩ := exec_of_loadsAt hld
  obtain ⟨t', ht', hquad, -⟩ := storeTo_spec rc a s
  cases hnext.symm.trans (hstore.trans ht')
  obtain ⟨u, hu, hreg, -⟩ := loadFrom_spec rt b t
  exact ⟨u, hload.trans hu, hreg.trans (hea ▸ hquad)⟩

/-- Settles O56: of all effects only a store's writes storage or adds a mark; the synchronizations take marks away. -/
theorem onlyStoresChangeMemory : Obligations.OnlyStoresChangeMemory := by
  intro i s t h hns
  cases exec_effect h with
  | stores _ _ hs => exact absurd hs (by simp [hns])
  | completesStores => exact ⟨rfl, nofun, fun _ ha => ha⟩
  | synchronizes => exact ⟨rfl, nofun, nofun⟩
  | readsChannel _ hr =>
    obtain ⟨-, -, -, -, -, -, -, -, -, hmem, hpending, hunsynced, -⟩ := channelRead_frame hr
    exact ⟨hmem, fun _ ha => hpending ▸ ha, fun _ ha => hunsynced ▸ ha⟩
  | writesChannel _ hw =>
    obtain ⟨-, -, -, -, -, -, -, -, hmem, hpending, hunsynced, -⟩ := channelWrite_frame hw
    exact ⟨hmem, fun _ ha => hpending ▸ ha, fun _ ha => hunsynced ▸ ha⟩
  | _ => exact ⟨rfl, fun _ ha => ha, fun _ ha => ha⟩

/-! Synchronization. -/

theorem exec_dsync (s : State) : exec .dsync s = .next s.completeStores.advance := rfl

theorem exec_sync (s : State) : exec .sync s = .next s.synchronize.advance := rfl

theorem exec_syncc (s : State) : exec .syncc s = .next s.synchronize.advance := rfl

/-- Settles O35: `dsync` completes the stores, the other two synchronize, and each goes on to the next instruction. -/
theorem synchronization : Obligations.Synchronization := fun s => ⟨exec_dsync s, exec_sync s, exec_syncc s⟩

/-! Fetches that stop the machine. -/

/-- Nothing is fetched from a word stored to since the last `sync` (R80). -/
theorem fetch_of_stale {s : State} (h : s.staleAtPc = true) : s.fetch = .fault (.staleFetch s.pc) := by
  simp [State.fetch, h]

/-- Bytes that decode to no instruction stop the fetch for the decoder's reason (R128, R142). -/
theorem fetch_of_decode_error {s : State} {e : DecodeError} (hstale : s.staleAtPc = false)
    (h : decode s.fetchBytes = .error e) : s.fetch = decodeStop e := by
  simp [State.fetch, hstale, h]

/-- A fetch that faults is the fault of the step, where no outside agent's action is due (R502). -/
theorem step_of_fetch_fault {s : State} {r : Fault} (hrun : s.run = .running) (henv : s.env = [])
    (h : s.fetch = .fault r) : step s = .fault r := by
  simp [step, henv, runInstruction, hrun, h]

/-- A fetch that is refused refuses the step, where no outside agent's action is due (R502). -/
theorem step_of_fetch_refused {s : State} {r : Refusal} (hrun : s.run = .running) (henv : s.env = [])
    (h : s.fetch = .refused r) : step s = .refused r := by
  simp [step, henv, runInstruction, hrun, h]

/-- Settles O52: the step stops as the fetch does, and the fetch by the first of its two checks that fails. -/
theorem fetchStops : Obligations.FetchStops := by
  intro s w hrun henv
  exact ⟨fun hstale => step_of_fetch_fault hrun henv (fetch_of_stale hstale),
    fun hstale hdec => step_of_fetch_fault hrun henv (fetch_of_decode_error hstale hdec),
    fun hstale hdec => step_of_fetch_refused hrun henv (fetch_of_decode_error hstale hdec)⟩

end Sys2Proof.Laws
end

section
/-! Words of the test vectors (R140 to R142): each is the word its instruction encodes to, and decodes by that. -/

namespace Sys2Proof.Laws

open Sys2Proof.Machine

/-- What a word decodes to is known from the instruction it encodes (R141). -/
theorem decodeWord_of_encode {i : Instr} {w : Word} (hwf : i.wf = true) (hw : encode i = w) : decodeWord w = .ok i :=
  hw ▸ decodeWord_encode i hwf

/-- Settles O46: encoding each instruction evaluates to its word, so no word is run through the decoder's table. -/
theorem decodeKnownWords : Obligations.DecodeKnownWords := by
  refine ⟨?andbi, ?cbd, ?cflts, ?csflt, ?br, ?hbrr, ?hbr, ?heq, ?stopd, ?syncc, ?lqd, ?bihnze⟩ <;>
    exact decodeWord_of_encode rfl rfl

end Sys2Proof.Laws
end

section
/-! Instructions that write one register (R16, R35, R38): once for each element width and each element-wise operation, that
the elements are those of the value written and nothing else but the pc changes.  And the halves of an element (R14). -/

namespace Sys2Proof.Laws

open Sys2Proof.Machine

section Results

variable {i : Instr} {s : State} {rt ra rb rc : RegNum} {v : Quad}

theorem setsWords_of_writeResult {f : Nat → Word} (he : exec i s = writeResult rt v s)
    (hv : ∀ k < 4, wordAt v k = f k) : setsWords i rt s f := by
  obtain ⟨t, ht, rfl, honly⟩ := writeResult_spec rt v s
  exact ⟨t, he.trans ht, fun k => hv k k.isLt, honly⟩

theorem setsHalfs_of_writeResult {f : Nat → Half} (he : exec i s = writeResult rt v s)
    (hv : ∀ k < 8, halfAt v k = f k) : setsHalfs i rt s f := by
  obtain ⟨t, ht, rfl, honly⟩ := writeResult_spec rt v s
  exact ⟨t, he.trans ht, fun k => hv k k.isLt, honly⟩

theorem setsBytes_of_writeResult {f : Nat → Byte} (he : exec i s = writeResult rt v s)
    (hv : ∀ k < 16, byteAt v k = f k) : setsBytes i rt s f := by
  obtain ⟨t, ht, rfl, honly⟩ := writeResult_spec rt v s
  exact ⟨t, he.trans ht, fun k => hv k k.isLt, honly⟩

theorem setsDwords_of_writeResult {f : Nat → DWord} (he : exec i s = writeResult rt v s)
    (hv : ∀ k < 2, dwordAt v k = f k) : setsDwords i rt s f := by
  obtain ⟨t, ht, rfl, honly⟩ := writeResult_spec rt v s
  exact ⟨t, he.trans ht, fun k => hv k k.isLt, honly⟩

theorem setsWords_words1 {f : Nat → Word} {g : Word → Word} (he : exec i s = writeResult rt (words1 g (s.reg ra)) s)
    (hg : ∀ k < 4, g (s.word ra k) = f k) : setsWords i rt s f :=
  setsWords_of_writeResult he fun k hk => (wordAt_words1 g _ hk).trans (hg k hk)

theorem setsWords_words2 {f : Nat → Word} {g : Word → Word → Word}
    (he : exec i s = writeResult rt (words2 g (s.reg ra) (s.reg rb)) s)
    (hg : ∀ k < 4, g (s.word ra k) (s.word rb k) = f k) : setsWords i rt s f :=
  setsWords_of_writeResult he fun k hk => (wordAt_words2 g _ _ hk).trans (hg k hk)

theorem setsWords_words3 {f : Nat → Word} {g : Word → Word → Word → Word}
    (he : exec i s = writeResult rt (words3 g (s.reg ra) (s.reg rb) (s.reg rc)) s)
    (hg : ∀ k < 4, g (s.word ra k) (s.word rb k) (s.word rc k) = f k) : setsWords i rt s f :=
  setsWords_of_writeResult he fun k hk => (wordAt_words3 g _ _ _ hk).trans (hg k hk)

theorem setsHalfs_halfs1 {f : Nat → Half} {g : Half → Half} (he : exec i s = writeResult rt (halfs1 g (s.reg ra)) s)
    (hg : ∀ k < 8, g (s.half ra k) = f k) : setsHalfs i rt s f :=
  setsHalfs_of_writeResult he fun k hk => (halfAt_halfs1 g _ hk).trans (hg k hk)

theorem setsHalfs_halfs2 {f : Nat → Half} {g : Half → Half → Half}
    (he : exec i s = writeResult rt (halfs2 g (s.reg ra) (s.reg rb)) s)
    (hg : ∀ k < 8, g (s.half ra k) (s.half rb k) = f k) : setsHalfs i rt s f :=
  setsHalfs_of_writeResult he fun k hk => (halfAt_halfs2 g _ _ hk).trans (hg k hk)

theorem setsBytes_bytes1 {f : Nat → Byte} {g : Byte → Byte} (he : exec i s = writeResult rt (bytes1 g (s.reg ra)) s)
    (hg : ∀ k < 16, g (s.byte ra k) = f k) : setsBytes i rt s f :=
  setsBytes_of_writeResult he fun k hk => (byteAt_bytes1 g _ hk).trans (hg k hk)

theorem setsBytes_bytes2 {f : Nat → Byte} {g : Byte → Byte → Byte}
    (he : exec i s = writeResult rt (bytes2 g (s.reg ra) (s.reg rb)) s)
    (hg : ∀ k < 16, g (s.byte ra k) (s.byte rb k) = f k) : setsBytes i rt s f :=
  setsBytes_of_writeResult he fun k hk => (byteAt_bytes2 g _ _ hk).trans (hg k hk)

theorem setsDwords_dwords1 {f : Nat → DWord} {g : DWord → DWord}
    (he : exec i s = writeResult rt (dwords1 g (s.reg ra)) s)
    (hg : ∀ k < 2, g (s.dword ra k) = f k) : setsDwords i rt s f :=
  setsDwords_of_writeResult he fun k hk => (dwordAt_dwords1 g _ hk).trans (hg k hk)

end Results

/-! The halves of an element are elements of half its width (R14). -/

theorem highHalf_wordAt (q : Quad) {k : Nat} (h : k < 4) : highHalf (wordAt q k) = halfAt q (2 * k) := by
  rw [halfAt_eq q (by omega), Nat.mul_mod_right, Nat.mul_div_cancel_left k two_pos]
  rfl

theorem lowHalf_wordAt (q : Quad) {k : Nat} (h : k < 4) : lowHalf (wordAt q k) = halfAt q (2 * k + 1) := by
  rw [halfAt_eq q (by omega), Nat.mul_add_mod, Nat.mul_add_div two_pos]
  rfl

theorem lowByte_halfAt (q : Quad) {k : Nat} (h : k < 8) :
    (halfAt q k).extractLsb' 0 8 = byteAt q (2 * k + 1) := by
  rw [byteAt_eq q (by omega), Nat.mul_add_mod, Nat.mul_add_div two_pos]
  rfl

theorem lowWord_dwordAt (q : Quad) {k : Nat} (h : k < 2) :
    (dwordAt q k).extractLsb' 0 32 = wordAt q (2 * k + 1) := by
  rw [wordAt_eq q (by omega), Nat.mul_add_mod, Nat.mul_add_div two_pos]
  rfl

end Sys2Proof.Laws
end

section
/-! Integer arithmetic (R200 to R235): what the operations on one element compute, as integers, and what each instruction
sets. -/

namespace Sys2Proof.Laws

open Sys2Proof.Machine

/-! Sums and differences at an element width are those of the integers, modulo 2^width (R200). -/

section Modular

variable {w n : Nat}

theorem ofInt_sub (x y : Int) : BitVec.ofInt w (x - y) = BitVec.ofInt w x - BitVec.ofInt w y := by
  rw [sub_eq_add_neg, BitVec.ofInt_add, BitVec.ofInt_neg, BitVec.sub_eq_add_neg]

theorem ofInt_toNat (x : BitVec w) : BitVec.ofInt w x.toNat = x := by
  rw [BitVec.ofInt_natCast, BitVec.ofNat_toNat, BitVec.setWidth_eq]

theorem sub_eq_ofInt (x y : BitVec w) : x - y = BitVec.ofInt w (x.toNat - y.toNat) := by
  rw [ofInt_sub, ofInt_toNat, ofInt_toNat]

/-- An element plus a sign-extended immediate. -/
theorem add_signExtend (x : BitVec w) (y : BitVec n) : x + y.signExtend w = BitVec.ofInt w (x.toNat + y.toInt) := by
  rw [BitVec.ofInt_add, ofInt_toNat]
  rfl

/-- A sign-extended immediate less an element. -/
theorem signExtend_sub (x : BitVec w) (y : BitVec n) : y.signExtend w - x = BitVec.ofInt w (y.toInt - x.toNat) := by
  rw [ofInt_sub, ofInt_toNat]
  rfl

theorem ofInt_add_bitVec (x : Int) (y : BitVec w) : BitVec.ofInt w x + y = BitVec.ofInt w (x + y.toNat) := by
  rw [BitVec.ofInt_add, ofInt_toNat]

theorem ofNat_add_bitVec (x : Nat) (y : BitVec w) : BitVec.ofNat w x + y = BitVec.ofNat w (x + y.toNat) := by
  rw [BitVec.ofNat_add, BitVec.ofNat_toNat, BitVec.setWidth_eq]

end Modular

/-! Carries and borrows (R202). -/

/-- The borrow that comes in is 1 where the bit of the old rt word is 0 (R202). -/
theorem borrowIn_eq (t : Word) : (borrowIn t : Int) = if t.toNat % 2 = 0 then 1 else 0 := by
  unfold borrowIn carryIn
  rcases Nat.mod_two_eq_zero_or_one t.toNat with h | h <;> simp [h]

theorem add_carryIn (a b t : Word) :
    a + b + BitVec.ofNat 32 (carryIn t) = BitVec.ofNat 32 (a.toNat + b.toNat + t.toNat % 2) := by
  rw [BitVec.ofNat_add, ← BitVec.add_def]
  rfl

theorem subExtended_eq (a b t : Word) :
    subExtended a b t = BitVec.ofInt 32 (b.toNat - a.toNat - if t.toNat % 2 = 0 then 1 else 0) := by
  rw [← borrowIn_eq, ofInt_sub, ← sub_eq_ofInt, BitVec.ofInt_natCast]
  rfl

theorem borrowExtended_eq (a b t : Word) : borrowExtended a b t =
    if (b.toNat : Int) - a.toNat - (if t.toNat % 2 = 0 then 1 else 0) < 0 then 0 else 1 := by
  rw [← borrowIn_eq]
  rfl

theorem noBorrow_sub (a b : Word) : noBorrow ((b.toNat : Int) - a.toNat) = if b.toNat < a.toNat then 0 else 1 := by
  simp only [noBorrow, sub_neg, Nat.cast_lt]

/-! Products (R216 to R226). -/

/-- The product of two signed halfwords fits a word (R216). -/
theorem toInt_signedProduct (a b : Half) : (signedProduct a b).toInt = a.toInt * b.toInt := by
  have hle := BitVec.toInt_mul_toInt_le (x := a) (y := b)
  have hge := BitVec.le_toInt_mul_toInt (x := a) (y := b)
  exact BitVec.toInt_ofInt_eq_self (by decide) (by omega) (by omega)

/-- The high half of a word has the sign of the word. -/
theorem toInt_highHalf (w : Word) : (highHalf w).toInt = w.toInt / 2 ^ 16 := by
  have hw := w.isLt
  rw [BitVec.toInt_eq_toNat_cond, BitVec.toInt_eq_toNat_cond, highHalf, BitVec.extractLsb'_toNat,
    Nat.shiftRight_eq_div_pow]
  split <;> split <;> omega

/-- The upper half of a product, extended by its sign, is the quotient by 2^16 (R224). -/
theorem highHalf_signedProduct (a b : Half) :
    (highHalf (signedProduct a b)).signExtend 32 = BitVec.ofInt 32 (a.toInt * b.toInt / 2 ^ 16) := by
  rw [BitVec.signExtend, toInt_highHalf, toInt_signedProduct]

/-- Extending an immediate by its sign keeps its signed value, so the product is that of the two integers (R223). -/
theorem signedProduct_s10Half (a : Half) (s10 : BitVec 10) :
    signedProduct a (s10Half s10) = BitVec.ofInt 32 (a.toInt * s10.toInt) := by
  rw [signedProduct, s10Half, BitVec.toInt_signExtend_of_le (by decide)]

/-! Counts and sums of bytes (R214, R215, R232). -/

/-- A number below 2^(n+1) whose bit n is clear is below 2^n. -/
theorem lt_two_pow_of_bit_clear {w : Word} {n : Nat} (h : w.toNat < 2 ^ (n + 1)) (hn : w.getLsbD n = false) :
    w.toNat < 2 ^ n := by
  refine Nat.lt_pow_two_of_testBit _ fun j hj => ?_
  rcases hj.eq_or_lt with rfl | hj
  · exact hn
  · exact Nat.testBit_lt_two_pow (h.trans_le (Nat.pow_le_pow_right two_pos hj))

/-- Of a word of n bits, the zeros before the first 1 are those above the position of the highest 1 (R214). -/
theorem leadingZeros_eq {w : Word} {n : Nat} (h : w.toNat < 2 ^ n) :
    leadingZeros w n = if w = 0 then n else n - 1 - Nat.log2 w.toNat := by
  induction n with
  | zero =>
    have hzero : w = 0 := BitVec.eq_of_toNat_eq (by simpa using h)
    simp [leadingZeros, hzero]
  | succ n ih =>
    rw [leadingZeros]
    split
    next hbit =>
      have hle : 2 ^ n ≤ w.toNat := Nat.ge_two_pow_of_testBit hbit
      have hne : w.toNat ≠ 0 := (Nat.two_pow_pos n).trans_le hle |>.ne'
      have hw : w ≠ 0 := fun e => hne (by rw [e]; rfl)
      rw [if_neg hw, (Nat.log2_eq_iff hne).2 ⟨hle, h⟩]
      omega
    next hbit =>
      have hlt := lt_two_pow_of_bit_clear h (by simpa using hbit)
      rw [ih hlt]
      split
      next => omega
      next hw =>
        have hlog : Nat.log2 w.toNat < n := (Nat.log2_lt fun e => hw (BitVec.eq_of_toNat_eq e)).2 hlt
        omega

theorem ofNat_leadingZeros (w : Word) : BitVec.ofNat 32 (leadingZeros w 32) =
    if w = 0 then 32 else BitVec.ofNat 32 (31 - Nat.log2 w.toNat) := by
  rw [leadingZeros_eq w.isLt]
  split <;> rfl

theorem onesIn_eq_countP (b : Byte) (n : Nat) : onesIn b n = (List.range n).countP fun j => b.getLsbD j := by
  induction n with
  | zero => rfl
  | succ n ih => rw [onesIn, ih, List.range_succ, List.countP_append, List.countP_singleton, add_comm]

theorem sumOfBytes_eq_sum (q : Quad) (i : Nat) :
    sumOfBytes q i = BitVec.ofNat 16 ((List.range 4).map fun j => (byteAt q (4 * i + j)).toNat).sum := by
  simp [sumOfBytes, List.range_succ, add_assoc]

/-- The halfwords of the result of `sumb`: the sums over rb in the even ones, over ra in the odd ones (R232). -/
theorem halfAt_sums (a b : Quad) {k : Nat} (h : k < 8) :
    halfAt (ofWords fun i => sumOfBytes b i ++ sumOfBytes a i) k = sumOfBytes (if k % 2 = 0 then b else a) (k / 2) := by
  rw [halfAt_eq _ h, wordAt_ofWords _ (by omega)]
  rcases Nat.mod_two_eq_zero_or_one k with e | e <;> rw [e]
  · exact extract_append_high _ _
  · exact extract_append_low _ _

/-! The statements. -/

/-- Settles O1, each instruction from its operation on one word. -/
theorem addSubtractWords : Obligations.AddSubtractWords := by
  intro s rt ra rb s10
  refine ⟨?a, ?ai, ?sf, ?sfi⟩
  case a => exact setsWords_words2 rfl fun k _ => BitVec.add_def _ _
  case ai => exact setsWords_words1 rfl fun k _ => add_signExtend _ s10
  case sf => exact setsWords_words2 rfl fun k _ => sub_eq_ofInt _ _
  case sfi => exact setsWords_words1 rfl fun k _ => signExtend_sub _ s10

/-- Settles O2; the carry out of the extended generate is its definition. -/
theorem halfwordsAndExtendedGenerates : Obligations.HalfwordsAndExtendedGenerates := by
  intro s rt ra rb s10
  refine ⟨?ah, ?ahi, ?sfh, ?sfhi, ?cgx, ?bgx⟩
  case ah => exact setsHalfs_halfs2 rfl fun k _ => BitVec.add_def _ _
  case ahi => exact setsHalfs_halfs1 rfl fun k _ => add_signExtend _ s10
  case sfh => exact setsHalfs_halfs2 rfl fun k _ => sub_eq_ofInt _ _
  case sfhi => exact setsHalfs_halfs1 rfl fun k _ => signExtend_sub _ s10
  case cgx => exact setsWords_words3 rfl fun k _ => rfl
  case bgx => exact setsWords_words3 rfl fun k _ => borrowExtended_eq _ _ _

/-- Settles O3; the third source of the extended forms is the old rt, read before it is written. -/
theorem carryAndBorrow : Obligations.CarryAndBorrow := by
  intro s rt ra rb
  refine ⟨?addx, ?sfx, ?cg, ?bg⟩
  case addx => exact setsWords_words3 rfl fun k _ => add_carryIn _ _ _
  case sfx => exact setsWords_words3 rfl fun k _ => subExtended_eq _ _ _
  case cg => exact setsWords_words2 rfl fun k _ => rfl
  case bg => exact setsWords_words2 rfl fun k _ => noBorrow_sub _ _

/-- Settles O4: the halves of word k are halfwords 2k and 2k + 1, and a sum with a product wraps as the sum of integers. -/
theorem multiplies : Obligations.Multiplies := by
  intro s rt ra rb rc
  refine ⟨?mpy, ?mpya, ?mpyhh, ?mpyhha, ?mpyhhau, ?mpyhhu, ?mpyu⟩
  case mpy => exact setsWords_words2 rfl fun k hk => by rw [lowHalf_wordAt _ hk, lowHalf_wordAt _ hk, signedProduct]
  case mpya =>
    exact setsWords_words3 rfl fun k hk => by
      rw [lowHalf_wordAt _ hk, lowHalf_wordAt _ hk, signedProduct, ofInt_add_bitVec]
  case mpyhh => exact setsWords_words2 rfl fun k hk => by rw [highHalf_wordAt _ hk, highHalf_wordAt _ hk, signedProduct]
  case mpyhha =>
    exact setsWords_words3 rfl fun k hk => by
      rw [highHalf_wordAt _ hk, highHalf_wordAt _ hk, signedProduct, ofInt_add_bitVec]
  case mpyhhau =>
    exact setsWords_words3 rfl fun k hk => by
      rw [highHalf_wordAt _ hk, highHalf_wordAt _ hk, unsignedProduct, ofNat_add_bitVec]
  case mpyhhu =>
    exact setsWords_words2 rfl fun k hk => by rw [highHalf_wordAt _ hk, highHalf_wordAt _ hk, unsignedProduct]
  case mpyu => exact setsWords_words2 rfl fun k hk => by rw [lowHalf_wordAt _ hk, lowHalf_wordAt _ hk, unsignedProduct]

/-- Settles O5; `mpys` for either value of the free parameter (log 11). -/
theorem otherMultiplies : Obligations.OtherMultiplies := by
  intro s rt ra rb s10
  refine ⟨?mpyh, ?mpyi, ?mpyui, ?mpys⟩
  case mpyh => exact setsWords_words2 rfl fun k hk => by rw [highProduct, highHalf_wordAt _ hk, lowHalf_wordAt _ hk]
  case mpyi => exact setsWords_words1 rfl fun k hk => by rw [lowHalf_wordAt _ hk, signedProduct_s10Half]
  case mpyui =>
    exact setsWords_words1 rfl fun k hk => by rw [lowHalf_wordAt _ hk, unsignedProduct, s10Half, BitVec.signExtend]
  case mpys =>
    refine setsWords_words2 rfl fun k hk => ?_
    cases Config.mpysHalves with
    | upper => rw [productUpper, highHalf_wordAt _ hk, highHalf_wordAt _ hk, highHalf_signedProduct]
    | lower => rw [productUpper, lowHalf_wordAt _ hk, lowHalf_wordAt _ hk, highHalf_signedProduct]

/-- Settles O6; the difference and the average of bytes are their definitions. -/
theorem bytesAndCounts : Obligations.BytesAndCounts := by
  intro s rt ra rb
  refine ⟨?absdb, ?avgb, ?cntb, ?clz, ?sumb⟩
  case absdb => exact setsBytes_bytes2 rfl fun k _ => rfl
  case avgb => exact setsBytes_bytes2 rfl fun k _ => rfl
  case cntb => exact setsBytes_bytes1 rfl fun k _ => congrArg (BitVec.ofNat 8) (onesIn_eq_countP _ 8)
  case clz => exact setsWords_words1 rfl fun k _ => ofNat_leadingZeros _
  case sumb =>
    refine setsHalfs_of_writeResult rfl fun k hk => ?_
    rw [halfAt_sums _ _ hk, sumOfBytes_eq_sum, ← apply_ite s.reg]

/-- Settles O7: the low half of an element is an element of half its width, and extending its sign keeps its value. -/
theorem signExtensions : Obligations.SignExtensions := by
  intro s rt ra
  refine ⟨?xsbh, ?xshw, ?xswd⟩
  case xsbh => exact setsHalfs_halfs1 rfl fun k hk => by rw [lowByte_halfAt _ hk, BitVec.signExtend]
  case xshw => exact setsWords_words1 rfl fun k hk => by rw [lowHalf_wordAt _ hk, BitVec.signExtend]
  case xswd => exact setsDwords_dwords1 rfl fun k hk => by rw [lowWord_dwordAt _ hk, BitVec.signExtend]

end Sys2Proof.Laws
end

section
/-! Logical instructions (R240 to R259): the bits of a value written (R13), the immediates at the width of an element (R111),
and what each instruction sets. -/

namespace Sys2Proof.Laws

open Sys2Proof.Machine

/-! The bits of a value (R13). -/

theorem setsBits_of_writeResult {i : Instr} {s : State} {rt : RegNum} {v : Quad} {f : Nat → Bool}
    (he : exec i s = writeResult rt v s) (hv : ∀ j < 128, v.getLsbD j = f j) : setsBits i rt s f := by
  obtain ⟨t, ht, rfl, honly⟩ := writeResult_spec rt v s
  exact ⟨t, he.trans ht, fun j => hv j j.isLt, honly⟩

/-- A complement has no bits above the width, so this holds of the bits of the value alone. -/
theorem getLsbD_complement (q : Quad) {j : Nat} (h : j < 128) : (~~~q).getLsbD j = !q.getLsbD j := by
  rw [BitVec.getLsbD_not, decide_eq_true h, Bool.true_and]

/-- Selecting by AND and OR takes bit j of `b` where the mask has a 1, of `a` where it has a 0 (R255). -/
theorem getLsbD_select (a b mask : Quad) {j : Nat} (h : j < 128) :
    ((a &&& ~~~mask) ||| (b &&& mask)).getLsbD j = if mask.getLsbD j then b.getLsbD j else a.getLsbD j := by
  rw [BitVec.getLsbD_or, BitVec.getLsbD_and, BitVec.getLsbD_and, getLsbD_complement _ h]
  cases mask.getLsbD j <;> simp

/-! The immediate at the width of an element (R111). -/

theorem s10Byte_eq (s10 : BitVec 10) : s10Byte s10 = BitVec.ofNat 8 s10.toNat := rfl

theorem s10Half_eq (s10 : BitVec 10) : s10Half s10 = BitVec.ofInt 16 s10.toInt := rfl

theorem s10Word_eq (s10 : BitVec 10) : s10Word s10 = BitVec.ofInt 32 s10.toInt := rfl

/-! The statements. -/

/-- Settles O8: each bit of the value written is the operation on that bit of the sources. -/
theorem logicalRegisters : Obligations.LogicalRegisters := by
  intro s rt ra rb rc
  refine ⟨?and, ?andc, ?eqv, ?nand, ?nor, ?or, ?orc, ?xor, ?selb, ?orx⟩
  case and => exact setsBits_of_writeResult rfl fun j _ => BitVec.getLsbD_and
  case andc => exact setsBits_of_writeResult rfl fun j hj => by rw [BitVec.getLsbD_and, getLsbD_complement _ hj]
  case eqv =>
    exact setsBits_of_writeResult rfl fun j hj => by
      rw [getLsbD_complement _ hj, BitVec.getLsbD_xor, ← Bool.bne_eq_xor, bne, Bool.not_not]
  case nand => exact setsBits_of_writeResult rfl fun j hj => by rw [getLsbD_complement _ hj, BitVec.getLsbD_and]
  case nor => exact setsBits_of_writeResult rfl fun j hj => by rw [getLsbD_complement _ hj, BitVec.getLsbD_or]
  case or => exact setsBits_of_writeResult rfl fun j _ => BitVec.getLsbD_or
  case orc => exact setsBits_of_writeResult rfl fun j hj => by rw [BitVec.getLsbD_or, getLsbD_complement _ hj]
  case xor => exact setsBits_of_writeResult rfl fun j _ => BitVec.getLsbD_xor
  case selb => exact setsBits_of_writeResult rfl fun j hj => getLsbD_select _ _ _ hj
  case orx => exact setsWords_of_writeResult rfl fun k hk => wordAt_inWord0 _ hk

/-- Settles O9: every element meets the immediate at its own width. -/
theorem logicalImmediates : Obligations.LogicalImmediates := by
  intro s rt ra s10
  refine ⟨?andbi, ?andhi, ?andi, ?orbi, ?orhi, ?ori, ?xorbi, ?xorhi, ?xori⟩
  case andbi => exact setsBytes_bytes1 rfl fun k _ => by rw [s10Byte_eq]
  case andhi => exact setsHalfs_halfs1 rfl fun k _ => by rw [s10Half_eq]
  case andi => exact setsWords_words1 rfl fun k _ => by rw [s10Word_eq]
  case orbi => exact setsBytes_bytes1 rfl fun k _ => by rw [s10Byte_eq]
  case orhi => exact setsHalfs_halfs1 rfl fun k _ => by rw [s10Half_eq]
  case ori => exact setsWords_words1 rfl fun k _ => by rw [s10Word_eq]
  case xorbi => exact setsBytes_bytes1 rfl fun k _ => by rw [s10Byte_eq]
  case xorhi => exact setsHalfs_halfs1 rfl fun k _ => by rw [s10Half_eq]
  case xori => exact setsWords_words1 rfl fun k _ => by rw [s10Word_eq]

end Sys2Proof.Laws
end

section
/-! Constants, masks, insertion controls and shuffle (R260 to R284): the immediates at the width of an element, the bits of a
mask, the number a gather forms, the bytes of an insertion control and of a shuffle; and what each instruction sets. -/

namespace Sys2Proof.Laws

open Sys2Proof.Machine

/-! Immediates at the width of a word (R115, R120, R121, R282). -/

theorem s16Word_eq (s16 : BitVec 16) : s16Word s16 = BitVec.ofInt 32 s16.toInt := rfl

theorem u18Word_eq (u18 : BitVec 18) : u18Word u18 = BitVec.ofNat 32 u18.toNat := (BitVec.ofNat_toNat 32 u18).symm

theorem u16Word_eq (u16 : BitVec 16) : u16Word u16 = BitVec.ofNat 32 u16.toNat := (BitVec.ofNat_toNat 32 u16).symm

/-- The upper half of a word constant counts 2^16 times its value (R282). -/
theorem append_zeroHalf (u16 : BitVec 16) : u16 ++ 0#16 = BitVec.ofNat 32 (u16.toNat * 2 ^ 16) := by
  have hu := u16.isLt
  refine BitVec.eq_of_toNat_eq ?_
  rw [BitVec.toNat_append, BitVec.toNat_ofNat, BitVec.toNat_ofNat, Nat.zero_mod, Nat.or_zero, Nat.shiftLeft_eq]
  omega

/-! The low bits of a word (R13): as a number, they are the residue modulo a power of two, and an address in a quadword needs
no more of a sum than those of its terms (R264). -/

theorem bitField_zero (w : Word) (n : Nat) : bitField w 0 n = w.toNat % 2 ^ n := by
  rw [bitField, pow_zero, Nat.div_one]

theorem bitField_add (a b : Word) : bitField (a + b) 0 4 = (a.toNat + b.toNat) % 16 := by
  rw [bitField_zero, BitVec.toNat_add]
  omega

theorem bitField_add_u7Word (a : Word) (u7 : BitVec 7) : bitField (a + u7Word u7) 0 4 = (a.toNat + u7.toNat) % 16 := by
  rw [bitField_add, u7Word, BitVec.toNat_setWidth_of_le (by decide)]

/-! Select masks (R261, R272 to R275). -/

/-- Bit k from the left of a mask of the low n bits of a word is bit n - 1 - k of the word (R13, R261). -/
theorem maskBit_bitField (w : Word) {n k : Nat} (h : k < n) : maskBit (bitField w 0 n) n k = w.getLsbD (n - 1 - k) := by
  rw [maskBit, bitField_zero, Nat.testBit_mod_two_pow, decide_eq_true (by omega), Bool.true_and]
  rfl

theorem wordAt_selectWords (m : Nat) {k : Nat} (h : k < 4) :
    wordAt (selectWords m) k = if maskBit m 4 k then 0xFFFFFFFF else 0 := wordAt_ofWords _ h

theorem halfAt_selectHalfs (m : Nat) {k : Nat} (h : k < 8) :
    halfAt (selectHalfs m) k = if maskBit m 8 k then 0xFFFF else 0 := halfAt_ofHalfs _ h

theorem byteAt_selectBytes (m : Nat) {k : Nat} (h : k < 16) :
    byteAt (selectBytes m) k = if maskBit m 16 k then 0xFF else 0 := byteAt_ofBytes _ h

/-! Gathers (R261, R276 to R278). -/

/-- The number gathered weighs each bit by its place, the first bit the most. -/
theorem gather_eq_sum (f : Nat → Bool) (n : Nat) :
    gather f n = ((List.range n).map fun j => (f j).toNat * 2 ^ (n - 1 - j)).sum := by
  induction n with
  | zero => rfl
  | succ n ih =>
    have hdouble : ∀ j ∈ List.range n, (f j).toNat * 2 ^ (n - j) = 2 * ((f j).toNat * 2 ^ (n - 1 - j)) := fun j hj => by
      have hj := List.mem_range.1 hj
      rw [show n - j = n - 1 - j + 1 by omega, pow_succ]
      ring
    rw [gather, ih, List.range_succ, List.map_append, List.sum_append, Nat.add_sub_cancel, List.map_congr_left hdouble,
      List.sum_map_mul_left]
    simp

/-- The numbers of the low bits of elements, gathered. -/
theorem gather_lowBits {w : Nat} (e : Nat → BitVec w) (n : Nat) :
    gather (fun i => (e i).getLsbD 0) n = ((List.range n).map fun j => (e j).toNat % 2 * 2 ^ (n - 1 - j)).sum := by
  simp only [gather_eq_sum, BitVec.getLsbD, Nat.toNat_testBit, pow_zero, Nat.div_one]

theorem setsWords_gather {i : Instr} {s : State} {rt : RegNum} {w : Nat} {e : Nat → BitVec w} {n : Nat}
    (he : exec i s = writeResult rt (inWord0 (BitVec.ofNat 32 (gather (fun i => (e i).getLsbD 0) n))) s) :
    setsWords i rt s fun k => if k = 0 then
      BitVec.ofNat 32 (((List.range n).map fun j => (e j).toNat % 2 * 2 ^ (n - 1 - j)).sum) else 0 :=
  setsWords_of_writeResult he fun k hk => by rw [wordAt_inWord0 _ hk, gather_lowBits]

/-! Insertion controls (R263 to R271). -/

/-- The bytes of the aligned element that holds position p are those with the same quotient by its size. -/
theorem mem_aligned_iff {size : Nat} (h : 0 < size) (p j : Nat) :
    p / size * size ≤ j ∧ j < p / size * size + size ↔ j / size = p / size := by
  rw [Nat.div_eq_iff h]
  omega

theorem byteAt_insertMask {size : Nat} (h : 0 < size) (p : Nat) {j : Nat} (hj : j < 16) :
    byteAt (insertMask size p) j =
      if j / size = p / size then BitVec.ofNat 8 (preferredByte size (j % size)) else BitVec.ofNat 8 (16 + j) := by
  rw [insertMask, byteAt_ofBytes _ hj]
  simp only [mem_aligned_iff h]
  split
  next hq => rw [← hq, Nat.mod_eq_sub_div_mul]
  next => rfl

theorem setsBytes_insertControl {i : Instr} {s : State} {rt : RegNum} {size p : Nat} {t : Word} (h : 0 < size)
    (he : exec i s = writeResult rt (insertControl size t) s) (hp : bitField t 0 4 = p) :
    setsBytes i rt s fun j =>
      if j / size = p / size then BitVec.ofNat 8 (preferredByte size (j % size)) else BitVec.ofNat 8 (16 + j) :=
  setsBytes_of_writeResult he fun j hj => by rw [insertControl, hp, byteAt_insertMask h _ hj]

/-- An element of one byte is its own, and its scalar lies in byte 3. -/
theorem setsBytes_insertControl_one {i : Instr} {s : State} {rt : RegNum} {p : Nat} {t : Word}
    (he : exec i s = writeResult rt (insertControl 1 t) s) (hp : bitField t 0 4 = p) :
    setsBytes i rt s fun j => if j = p then 3 else BitVec.ofNat 8 (16 + j) :=
  setsBytes_of_writeResult he fun j hj => by
    rw [insertControl, hp, byteAt_insertMask one_pos _ hj, Nat.div_one, Nat.div_one]
    rfl

/-! Shuffle (R262, R284). -/

/-- The selection table read by the ranges of the control byte (R262; decision D16). -/
theorem shufbSelect_eq (c : Byte) (a b : Quad) : shufbSelect c a b =
    if 0xE0 ≤ c.toNat then 0x80 else if 0xC0 ≤ c.toNat then 0xFF else if 0x80 ≤ c.toNat then 0x00
    else if c.toNat % 32 < 16 then byteAt a (c.toNat % 16) else byteAt b (c.toNat % 16) := by
  have hc := c.isLt
  have hzero : c.toNat / 64 = 0b10 ↔ 0x80 ≤ c.toNat ∧ c.toNat < 0xC0 := by omega
  have hones : c.toNat / 32 = 0b110 ↔ 0xC0 ≤ c.toNat ∧ c.toNat < 0xE0 := by omega
  have hsign : c.toNat / 32 = 0b111 ↔ 0xE0 ≤ c.toNat := by omega
  simp only [shufbSelect, hzero, hones, hsign]
  by_cases hE0 : 0xE0 ≤ c.toNat
  · rw [if_neg (by omega), if_neg (by omega), if_pos hE0, if_pos hE0]
  by_cases hC0 : 0xC0 ≤ c.toNat
  · rw [if_neg (by omega), if_pos (by omega), if_neg hE0, if_pos hC0]
  by_cases h80 : 0x80 ≤ c.toNat
  · rw [if_pos (by omega), if_neg hE0, if_neg hC0, if_pos h80]
  rw [if_neg (by omega), if_neg (by omega), if_neg hE0, if_neg hE0, if_neg hC0, if_neg h80]
  split
  next hlow => rw [show c.toNat % 32 = c.toNat % 16 by omega]
  next hhigh => rw [show c.toNat % 32 - 16 = c.toNat % 16 by omega]

/-! The statements. -/

/-- Settles O10, each instruction from its immediate at the width of an element. -/
theorem immediateConstants : Obligations.ImmediateConstants := by
  intro s rt s16 u16 u18
  refine ⟨?il, ?ila, ?ilh, ?ilhu, ?iohl⟩
  case il => exact setsWords_of_writeResult rfl fun k hk => by rw [wordAt_ofWords _ hk, s16Word_eq]
  case ila => exact setsWords_of_writeResult rfl fun k hk => by rw [wordAt_ofWords _ hk, u18Word_eq]
  case ilh => exact setsHalfs_of_writeResult rfl fun k hk => halfAt_ofHalfs _ hk
  case ilhu => exact setsWords_of_writeResult rfl fun k hk => by rw [wordAt_ofWords _ hk, append_zeroHalf]
  case iohl => exact setsWords_words1 rfl fun k _ => by rw [u16Word_eq]

/-- Settles O11: mask bit k is bit n - 1 - k of the source, and a gather is the sum of its weighted bits. -/
theorem masksAndGathers : Obligations.MasksAndGathers := by
  intro s rt ra u16
  refine ⟨?fsm, ?fsmh, ?fsmb, ?fsmbi, ?gb, ?gbh, ?gbb⟩
  case fsm => exact setsWords_of_writeResult rfl fun k hk => by rw [wordAt_selectWords _ hk, maskBit_bitField _ hk]; rfl
  case fsmh => exact setsHalfs_of_writeResult rfl fun k hk => by rw [halfAt_selectHalfs _ hk, maskBit_bitField _ hk]; rfl
  case fsmb => exact setsBytes_of_writeResult rfl fun k hk => by rw [byteAt_selectBytes _ hk, maskBit_bitField _ hk]; rfl
  case fsmbi => exact setsBytes_of_writeResult rfl fun k hk => byteAt_selectBytes _ hk
  case gb => exact setsWords_gather (e := s.word ra) (n := 4) rfl
  case gbh => exact setsWords_gather (e := s.half ra) (n := 8) rfl
  case gbb => exact setsWords_gather (e := s.byte ra) (n := 16) rfl

/-- Settles O12: an insertion control by the aligned element that holds the address, a shuffle by the range of each control
byte. -/
theorem shuffleAndInsertionControls : Obligations.ShuffleAndInsertionControls := by
  intro s rt ra rb rc u7 d x
  have hd : bitField (s.scalarReg ra + u7Word u7) 0 4 = d := bitField_add_u7Word _ _
  have hx : bitField (s.scalarReg ra + s.scalarReg rb) 0 4 = x := bitField_add _ _
  refine ⟨?cbd, ?cbx, ?chd, ?chx, ?cwd, ?cwx, ?cdd, ?cdx, ?shufb⟩
  case cbd => exact setsBytes_insertControl_one rfl hd
  case cbx => exact setsBytes_insertControl_one rfl hx
  case chd => exact setsBytes_insertControl two_pos rfl hd
  case chx => exact setsBytes_insertControl two_pos rfl hx
  case cwd => exact setsBytes_insertControl four_pos rfl hd
  case cwx => exact setsBytes_insertControl four_pos rfl hx
  case cdd => exact setsBytes_insertControl (size := 8) (by decide) rfl hd
  case cdx => exact setsBytes_insertControl (size := 8) (by decide) rfl hx
  case shufb => exact setsBytes_of_writeResult rfl fun j hj => by rw [byteAt_ofBytes _ hj, shufbSelect_eq]

end Sys2Proof.Laws
end

section
/-! Shifts and rotates (R290 to R322): each operation on a value as arithmetic on its number, the counts as residues, a
rotate by whole bytes as a rotation of the bytes; and what each instruction sets. -/

namespace Sys2Proof.Laws

open Sys2Proof.Machine

/-! The operations as numbers (R290, R291). -/

section Operations

variable {w : Nat} (v : BitVec w)

theorem shiftLeft_eq_ofNat (n : Nat) : v <<< n = BitVec.ofNat w (v.toNat * 2 ^ n) := by
  refine BitVec.eq_of_toNat_eq ?_
  rw [BitVec.toNat_shiftLeft, BitVec.toNat_ofNat, Nat.shiftLeft_eq]

theorem ushiftRight_eq_ofNat (n : Nat) : v >>> n = BitVec.ofNat w (v.toNat / 2 ^ n) := by
  rw [← Nat.shiftRight_eq_div_pow, ← BitVec.toNat_ushiftRight, BitVec.ofNat_toNat, BitVec.setWidth_eq]

/-- A left shift is the product by the power of two, which is 0 modulo 2^w from a distance of w on (R291 a). -/
theorem shl_eq (n : Nat) : shl v n = BitVec.ofNat w (v.toNat * 2 ^ n) := by
  rw [← shiftLeft_eq_ofNat, shl]
  split
  next => rfl
  next h => exact (BitVec.shiftLeft_eq_zero (not_lt.1 h)).symm

/-- A right shift is the quotient by the power of two, which is 0 from a distance of w on (R291 b). -/
theorem shr_eq (n : Nat) : shr v n = BitVec.ofNat w (v.toNat / 2 ^ n) := by
  rw [← ushiftRight_eq_ofNat, shr]
  split
  next => rfl
  next h => exact (BitVec.ushiftRight_eq_zero (not_lt.1 h)).symm

/-- From a distance of w - 1 on, a shift that fills with the sign leaves copies of the sign. -/
theorem sshiftRight_min (n : Nat) : v.sshiftRight (min n (w - 1)) = v.sshiftRight n := by
  rcases le_total n (w - 1) with hle | hge
  · rw [min_eq_left hle]
  rw [min_eq_right hge]
  ext i hi
  rw [BitVec.getElem_sshiftRight, BitVec.getElem_sshiftRight]
  have hsign : ∀ {j} (hj : j < w), j = w - 1 → v[j] = v.msb := fun hj e => by
    subst e
    rw [BitVec.msb_eq_getLsbD_last, BitVec.getLsbD_eq_getElem]
  split <;> split
  next => rw [hsign _ (by omega), hsign _ (by omega)]
  next => exact hsign _ (by omega)
  next => exact (hsign _ (by omega)).symm
  next => rfl

/-- A right shift that fills with the sign is the quotient of the signed value, rounded down (R291 c; decision D26). -/
theorem sar_eq (n : Nat) : sar v n = BitVec.ofInt w (v.toInt / 2 ^ n) := by
  rw [sar, sshiftRight_min, BitVec.sshiftRight_eq, Int.shiftRight_eq_div_pow, Nat.cast_pow, Nat.cast_ofNat]

/-- The bits a rotate moves up and those it brings round meet in no place. -/
theorem shiftLeft_and_ushiftRight (n : Nat) : v <<< n &&& v >>> (w - n) = 0#w := by
  ext i hi
  rw [BitVec.getElem_and, BitVec.getElem_shiftLeft, BitVec.getElem_ushiftRight, BitVec.getElem_zero]
  by_cases h : i < n
  · rw [decide_eq_true h]
    rfl
  · rw [BitVec.getLsbD_of_ge v _ (by omega), Bool.and_false]

/-- A rotate adds what the shift moves out of the top back in at the bottom (R290). -/
theorem rotl_eq {n : Nat} (h : n < w) :
    rotl v n = BitVec.ofNat w (v.toNat * 2 ^ n + v.toNat / 2 ^ (w - n)) := by
  rw [rotl, BitVec.rotateLeft_def, Nat.mod_eq_of_lt h, BitVec.ofNat_add, ← shiftLeft_eq_ofNat, ← ushiftRight_eq_ofNat,
    BitVec.add_eq_or_of_and_eq_zero _ _ (shiftLeft_and_ushiftRight v n)]

end Operations

/-! The counts (R108 to R110, R117, R291). -/

theorem quadCount_zero (s : State) (rb : RegNum) (n : Nat) : s.quadCount rb 0 n = (s.word rb 0).toNat % 2 ^ n :=
  bitField_zero _ n

theorem quadCount_three (s : State) (rb : RegNum) (n : Nat) : s.quadCount rb 3 n = (s.word rb 0).toNat / 8 % 2 ^ n := rfl

/-- Only the count modulo the count field matters. -/
theorem negated_mod (c n : Nat) : negated (c % 2 ^ n) n = negated c n := by
  rw [negated, Nat.mod_mod, negated]

/-- The distance of a rotate and mask is the residue of the negative count (R291 b). -/
theorem negated_eq (c n : Nat) : negated c n = (-(c : Int) % 2 ^ n).toNat := by
  have hle : c % 2 ^ n ≤ 2 ^ n := (Nat.mod_lt _ (Nat.two_pow_pos n)).le
  have hcast : (negated c n : Int) = -(c : Int) % 2 ^ n := by
    rw [negated, Int.natCast_mod, Nat.cast_sub hle, Int.natCast_mod, Nat.cast_pow, Nat.cast_ofNat,
      ← Int.neg_emod_eq_sub_emod]
    exact Int.ModEq.neg (Int.mod_modEq _ _)
  rw [← hcast, Int.toNat_natCast]

/-- The field of an immediate, read unsigned by the model, has the residues of its signed value. -/
theorem negated_immediate {w : Nat} (i : BitVec w) {n : Nat} (h : n ≤ w) :
    negated i.toNat n = (-i.toInt % 2 ^ n).toNat := by
  have hdvd : (2 ^ n : Int) ∣ ((2 ^ w : Nat) : Int) := by
    rw [Nat.cast_pow, Nat.cast_ofNat]
    exact pow_dvd_pow 2 h
  have hmod : (i.toNat : Int) ≡ i.toInt [ZMOD 2 ^ n] := by
    rw [BitVec.toInt_eq_toNat_bmod]
    exact Int.ModEq.of_dvd hdvd Int.bmod_emod.symm
  rw [negated_eq, hmod.neg]

/-- `rotqmbybi` by the default of `ROTQMBYBI_FIELD` (decision D25, log 10). -/
theorem rotqmbybiDistance_default (c : Word) :
    rotqmbybiDistance Config.rotqmbybiField c = (-((c.toNat / 8 : Nat) : Int) % 2 ^ 5).toNat :=
  (negated_mod (c.toNat / 8) 5).trans (negated_eq _ 5)

/-! A rotate by whole bytes (R306 to R308). -/

/-- A rotate to the left by n bytes brings byte j + n, counted round the quadword, to place j. -/
theorem byteAt_rotl (q : Quad) (n : Nat) {j : Nat} (h : j < 16) :
    byteAt (rotl q (8 * (n % 16))) j = byteAt q ((j + n) % 16) := by
  ext b hb
  rw [byteAt, byteAt, BitVec.getElem_extractLsb', BitVec.getElem_extractLsb', rotl, BitVec.getLsbD_rotateLeft,
    Nat.mod_eq_of_lt (show 8 * (n % 16) < 128 by omega), decide_eq_true (show 120 - 8 * j + b < 128 by omega),
    Bool.true_and]
  by_cases hround : 120 - 8 * j + b < 8 * (n % 16)
  · rw [decide_eq_true hround, cond_true]
    congr 1
    omega
  · rw [decide_eq_false hround, cond_false]
    congr 1
    omega

/-! What an instruction sets, by its operation. -/

section Results

variable {i : Instr} {s : State} {rt : RegNum} {q : Quad} {n m : Nat}

theorem setsQuad_of_writeResult {v : Quad} (he : exec i s = writeResult rt v s) (hv : v = BitVec.ofNat 128 n) :
    setsQuad i rt s n := by
  obtain ⟨t, ht, hreg, honly⟩ := writeResult_spec rt v s
  exact ⟨t, he.trans ht, hreg.trans hv, honly⟩

theorem setsQuad_rotl (he : exec i s = writeResult rt (rotl q n) s) (hn : n = m) (hlt : m < 128) :
    setsQuad i rt s (q.toNat * 2 ^ m + q.toNat / 2 ^ (128 - m)) :=
  setsQuad_of_writeResult he (hn ▸ rotl_eq q (hn ▸ hlt))

theorem setsQuad_shl (he : exec i s = writeResult rt (shl q n) s) (hn : n = m) : setsQuad i rt s (q.toNat * 2 ^ m) :=
  setsQuad_of_writeResult he (hn ▸ shl_eq q n)

theorem setsQuad_shr (he : exec i s = writeResult rt (shr q n) s) (hn : n = m) : setsQuad i rt s (q.toNat / 2 ^ m) :=
  setsQuad_of_writeResult he (hn ▸ shr_eq q n)

theorem setsBytes_rotl (he : exec i s = writeResult rt (rotl q (8 * n)) s) (hn : n = m % 16) :
    setsBytes i rt s fun j => byteAt q ((j + m) % 16) :=
  setsBytes_of_writeResult he fun _ hj => hn ▸ byteAt_rotl q m hj

end Results

/-! The statements. -/

/-- Settles O13: the count fields keep every rotate below the width. -/
theorem rotatesOfElements : Obligations.RotatesOfElements := by
  intro s rt ra rb s7
  refine ⟨?rot, ?roth, ?rothi, ?roti, ?shl⟩
  case rot => exact setsWords_words2 rfl fun k _ => rotl_eq _ (Nat.mod_lt _ (by decide))
  case roth => exact setsHalfs_halfs2 rfl fun k _ => rotl_eq _ (Nat.mod_lt _ (by decide))
  case rothi => exact setsHalfs_halfs1 rfl fun k _ => rotl_eq _ (Nat.mod_lt _ (by decide))
  case roti => exact setsWords_words1 rfl fun k _ => rotl_eq _ (Nat.mod_lt _ (by decide))
  case shl => exact setsWords_words2 rfl fun k _ => by rw [shl_eq, bitField_zero]; rfl

/-- Settles O14, each instruction from the product a left shift is. -/
theorem leftShifts : Obligations.LeftShifts := by
  intro s rt ra rb u
  refine ⟨?shlh, ?shlhi, ?shli⟩
  case shlh => exact setsHalfs_halfs2 rfl fun k _ => shl_eq _ _
  case shlhi => exact setsHalfs_halfs1 rfl fun k _ => shl_eq _ _
  case shli => exact setsWords_words1 rfl fun k _ => shl_eq _ _

/-- Settles O15: a quotient by the residue of the negative count. -/
theorem rightShifts : Obligations.RightShifts := by
  intro s rt ra rb i
  refine ⟨?rotm, ?rothm, ?rothmi, ?rotmi, ?rotma, ?rotmah, ?rotmahi, ?rotmai⟩
  case rotm => exact setsWords_words2 rfl fun k _ => by rw [shr_eq, negated_eq]; rfl
  case rothm => exact setsHalfs_halfs2 rfl fun k _ => by rw [shr_eq, negated_eq]; rfl
  case rothmi => exact setsHalfs_halfs1 rfl fun k _ => by rw [shr_eq, negated_immediate i (by decide)]; rfl
  case rotmi => exact setsWords_words1 rfl fun k _ => by rw [shr_eq, negated_immediate i (by decide)]; rfl
  case rotma => exact setsWords_words2 rfl fun k _ => by rw [sar_eq, negated_eq]; rfl
  case rotmah => exact setsHalfs_halfs2 rfl fun k _ => by rw [sar_eq, negated_eq]; rfl
  case rotmahi => exact setsHalfs_halfs1 rfl fun k _ => by rw [sar_eq, negated_immediate i (by decide)]; rfl
  case rotmai => exact setsWords_words1 rfl fun k _ => by rw [sar_eq, negated_immediate i (by decide)]; rfl

/-- Settles O16: the rotate by bits as a sum, the rotates by bytes byte by byte. -/
theorem quadwordRotates : Obligations.QuadwordRotates := by
  intro s rt ra rb s7
  refine ⟨?rotqbi, ?rotqby, ?rotqbybi, ?rotqbyi⟩
  case rotqbi => exact setsQuad_rotl rfl (quadCount_zero s rb 3) (by omega)
  case rotqby => exact setsBytes_rotl rfl (quadCount_zero s rb 4)
  case rotqbybi => exact setsBytes_rotl rfl (by rw [quadCount_three]; omega)
  case rotqbyi => exact setsBytes_rotl rfl rfl

/-- Settles O17; the product by 2^128 or more is 0 as a quadword, so 16 bytes or more are no case of their own. -/
theorem quadwordLeftShifts : Obligations.QuadwordLeftShifts := by
  intro s rt ra rb u
  refine ⟨?shlqbi, ?shlqbii, ?shlqby, ?shlqbybi, ?shlqbyi⟩
  case shlqbi => exact setsQuad_shl rfl (quadCount_zero s rb 3)
  case shlqbii => exact setsQuad_shl rfl rfl
  case shlqby => exact setsQuad_shl rfl (congrArg (8 * ·) (quadCount_zero s rb 5))
  case shlqbybi => exact setsQuad_shl rfl (congrArg (8 * ·) (quadCount_three s rb 5))
  case shlqbyi => exact setsQuad_shl rfl rfl

/-- Settles O18; the count field read from rb and then negated is the negative count reduced once. -/
theorem quadwordRightShifts : Obligations.QuadwordRightShifts := by
  intro s rt ra rb i
  refine ⟨?rotqmbi, ?rotqmbii, ?rotqmby, ?rotqmbybi, ?rotqmbyi, ?rotqbii⟩
  case rotqmbi => exact setsQuad_shr rfl (by rw [quadCount_zero, negated_mod, negated_eq]; rfl)
  case rotqmbii => exact setsQuad_shr rfl (negated_immediate i (by decide))
  case rotqmby => exact setsQuad_shr rfl (by rw [quadCount_zero, negated_mod, negated_eq]; rfl)
  case rotqmbybi => exact setsQuad_shr rfl (congrArg (8 * ·) (rotqmbybiDistance_default (s.word rb 0)))
  case rotqmbyi => exact setsQuad_shr rfl (congrArg (8 * ·) (negated_immediate i (by decide)))
  case rotqbii => exact setsQuad_rotl rfl rfl (by omega)

end Sys2Proof.Laws
end

section
/-! Compares and conditional halts (R330 to R355): when each comparison of the model holds, what a mask and a halt make of
that, and what each instruction does. -/

namespace Sys2Proof.Laws

open Sys2Proof.Machine

/-! When a comparison holds (R330). -/

section Comparisons

variable {w n : Nat} (a b : BitVec w) (i : BitVec n)

theorem signedGt_iff : signedGt a b = true ↔ b.toInt < a.toInt := decide_eq_true_iff

theorem unsignedGt_iff : unsignedGt a b = true ↔ b.toNat < a.toNat := decide_eq_true_iff

/-- An immediate extended by its sign keeps its signed value, so equality with it is that of the two integers (R111). -/
theorem eq_signExtend_iff (h : n ≤ w) : a = i.signExtend w ↔ a.toInt = i.toInt := by
  rw [← BitVec.toInt_inj, BitVec.toInt_signExtend_of_le h]

theorem signedGt_signExtend_iff (h : n ≤ w) : signedGt a (i.signExtend w) = true ↔ i.toInt < a.toInt := by
  rw [signedGt_iff, BitVec.toInt_signExtend_of_le h]

end Comparisons

theorem unsignedGt_s10Byte_iff (a : Byte) (s10 : BitVec 10) :
    unsignedGt a (s10Byte s10) = true ↔ s10.toNat % 2 ^ 8 < a.toNat := by
  rw [unsignedGt_iff, s10Byte_eq, BitVec.toNat_ofNat]

theorem unsignedGt_s10Half_iff (a : Half) (s10 : BitVec 10) :
    unsignedGt a (s10Half s10) = true ↔ (BitVec.ofInt 16 s10.toInt).toNat < a.toNat := by
  rw [unsignedGt_iff, s10Half_eq]

theorem unsignedGt_s10Word_iff (a : Word) (s10 : BitVec 10) :
    unsignedGt a (s10Word s10) = true ↔ (BitVec.ofInt 32 s10.toInt).toNat < a.toNat := by
  rw [unsignedGt_iff, s10Word_eq]

/-! What an instruction makes of a condition: a mask of all ones or 0 (R330), a halt or the next instruction (R331). -/

section Conditions

variable {c : Bool} {p : Prop} [Decidable p]

theorem maskWord_of_iff (h : c = true ↔ p) : maskWord c = if p then 0xFFFFFFFF else 0 := if_congr h rfl rfl

theorem maskHalf_of_iff (h : c = true ↔ p) : maskHalf c = if p then 0xFFFF else 0 := if_congr h rfl rfl

theorem maskByte_of_iff (h : c = true ↔ p) : maskByte c = if p then 0xFF else 0 := if_congr h rfl rfl

theorem haltIf_of_iff (s : State) (h : c = true ↔ p) :
    haltIf c s = .next (if p then { s with run := .halted } else { s with pc := nextPc s.pc }) := by
  rcases haltIf_cases c s with ⟨hc, he⟩ | ⟨hc, he⟩
  · rw [he, if_pos (h.1 hc)]
  · rw [he, if_neg (mt h.2 (Bool.eq_false_iff.1 hc)), State.advance]

end Conditions

/-! The statements. -/

/-- Settles O19: every element meets its partner, or the immediate at its own width. -/
theorem compareEqual : Obligations.CompareEqual := by
  intro s rt ra rb s10
  refine ⟨?ceq, ?ceqb, ?ceqbi, ?ceqh, ?ceqhi, ?ceqi⟩
  case ceq => exact setsWords_words2 rfl fun k _ => maskWord_of_iff decide_eq_true_iff
  case ceqb => exact setsBytes_bytes2 rfl fun k _ => maskByte_of_iff decide_eq_true_iff
  case ceqbi => exact setsBytes_bytes1 rfl fun k _ => maskByte_of_iff (by rw [s10Byte_eq, decide_eq_true_iff])
  case ceqh => exact setsHalfs_halfs2 rfl fun k _ => maskHalf_of_iff decide_eq_true_iff
  case ceqhi =>
    exact setsHalfs_halfs1 rfl fun k _ =>
      maskHalf_of_iff (decide_eq_true_iff.trans (eq_signExtend_iff _ s10 (by decide)))
  case ceqi =>
    exact setsWords_words1 rfl fun k _ =>
      maskWord_of_iff (decide_eq_true_iff.trans (eq_signExtend_iff _ s10 (by decide)))

/-- Settles O20; a signed compare reads the value of the immediate, an unsigned one the bits of its extension. -/
theorem compareGreater : Obligations.CompareGreater := by
  intro s rt ra rb s10
  refine ⟨?cgt, ?cgtb, ?cgtbi, ?cgth, ?cgthi, ?cgti, ?clgt, ?clgtb, ?clgtbi, ?clgth, ?clgthi, ?clgti⟩
  case cgt => exact setsWords_words2 rfl fun k _ => maskWord_of_iff (signedGt_iff _ _)
  case cgtb => exact setsBytes_bytes2 rfl fun k _ => maskByte_of_iff (signedGt_iff _ _)
  case cgtbi => exact setsBytes_bytes1 rfl fun k _ => maskByte_of_iff (by rw [signedGt_iff, s10Byte_eq])
  case cgth => exact setsHalfs_halfs2 rfl fun k _ => maskHalf_of_iff (signedGt_iff _ _)
  case cgthi => exact setsHalfs_halfs1 rfl fun k _ => maskHalf_of_iff (signedGt_signExtend_iff _ s10 (by decide))
  case cgti => exact setsWords_words1 rfl fun k _ => maskWord_of_iff (signedGt_signExtend_iff _ s10 (by decide))
  case clgt => exact setsWords_words2 rfl fun k _ => maskWord_of_iff (unsignedGt_iff _ _)
  case clgtb => exact setsBytes_bytes2 rfl fun k _ => maskByte_of_iff (unsignedGt_iff _ _)
  case clgtbi => exact setsBytes_bytes1 rfl fun k _ => maskByte_of_iff (unsignedGt_s10Byte_iff _ s10)
  case clgth => exact setsHalfs_halfs2 rfl fun k _ => maskHalf_of_iff (unsignedGt_iff _ _)
  case clgthi => exact setsHalfs_halfs1 rfl fun k _ => maskHalf_of_iff (unsignedGt_s10Half_iff _ s10)
  case clgti => exact setsWords_words1 rfl fun k _ => maskWord_of_iff (unsignedGt_s10Word_iff _ s10)

/-- Settles O21: each halt by when its comparison of the two scalars holds. -/
theorem conditionalHalts : Obligations.ConditionalHalts := by
  intro s rt ra rb s10 halted goesOn
  refine ⟨?heq, ?heqi, ?hgt, ?hgti, ?hlgt, ?hlgti⟩
  case heq => exact haltIf_of_iff s decide_eq_true_iff
  case heqi => exact haltIf_of_iff s (decide_eq_true_iff.trans (eq_signExtend_iff _ s10 (by decide)))
  case hgt => exact haltIf_of_iff s (signedGt_iff _ _)
  case hgti => exact haltIf_of_iff s (signedGt_signExtend_iff _ s10 (by decide))
  case hlgt => exact haltIf_of_iff s (unsignedGt_iff _ _)
  case hlgti => exact haltIf_of_iff s (unsignedGt_s10Word_iff _ s10)

end Sys2Proof.Laws
end

section
/-! Branches, interrupt return, hints and no-operations (R360 to R399, R462, R465): when each condition holds, what the shared
operations make of a state, and what each instruction does. -/

namespace Sys2Proof.Laws

open Sys2Proof.Machine

/-! When a branch is taken (R367 to R392, R507). -/

theorem wordZero_iff (s : State) (rc : RegNum) : s.wordZero rc = true ↔ s.word rc 0 = 0 := decide_eq_true_iff

theorem halfZero_iff (s : State) (rc : RegNum) : s.halfZero rc = true ↔ s.half rc 1 = 0 := decide_eq_true_iff

theorem not_wordZero_iff (s : State) (rc : RegNum) : (!s.wordZero rc) = true ↔ s.word rc 0 ≠ 0 := by
  rw [Bool.not_eq_true', Bool.eq_false_iff, ne_eq, wordZero_iff]

theorem not_halfZero_iff (s : State) (rc : RegNum) : (!s.halfZero rc) = true ↔ s.half rc 1 ≠ 0 := by
  rw [Bool.not_eq_true', Bool.eq_false_iff, ne_eq, halfZero_iff]

/-- Channel 0 has a value to read exactly where some pending event is enabled (R48, R507). -/
theorem eventCountNonzero_eq (s : State) : s.eventCountNonzero = decide (s.eventPending &&& s.eventMask ≠ 0) := by
  refine decide_eq_decide.2 (not_congr ?_)
  change (if s.enabledEvents = 0 then 0 else 1) = 0 ↔ s.enabledEvents = 0
  simp

/-! What the shared operations do. -/

section Operations

variable {p : Prop} [Decidable p] {taken : Bool}

theorem continueNext_eq (s : State) : continueNext s = .next { s with pc := nextPc s.pc } := rfl

theorem branchIf_true (a : Word) (c : IeChange) (s : State) :
    branchIf true a c s = .next { s with pc := target a, ie := c.apply s.ie } := rfl

/-- IE changes only where the branch is taken (R362). -/
theorem branchIf_of_iff (a : Word) (c : IeChange) (s : State) (h : taken = true ↔ p) :
    branchIf taken a c s =
      .next (if p then { s with pc := target a, ie := c.apply s.ie } else { s with pc := nextPc s.pc }) := by
  rcases branchIf_cases taken a c s with ⟨ht, he⟩ | ⟨ht, he⟩
  · rw [he, if_pos (h.1 ht), State.branchTo]
  · rw [he, if_neg (mt h.2 (Bool.eq_false_iff.1 ht)), State.advance]

/-- A branch of the plain form chooses the pc and leaves IE, taken or not (R362). -/
theorem branchIf_keep_of_iff (a : Word) (s : State) (h : taken = true ↔ p) :
    branchIf taken a .keep s = .next { s with pc := if p then target a else nextPc s.pc } := by
  rw [branchIf_of_iff a .keep s h]
  split <;> rfl

theorem interruptReturn_eq (c : IeChange) (s : State) :
    interruptReturn c s = .next { s with pc := target s.srr0, ie := c.apply s.ie } := rfl

end Operations

/-! Branches that write the link (R361). -/

section Links

variable {i : Instr} {rt : RegNum} {s : State} {a pc : Word} {c : IeChange} {ie : Bool}

/-- The link written, with any pc and IE: its words, and all that stays, are those of a result written to rt. -/
theorem linksAndGoes_of_setReg (he : exec i s = .next { s.setReg rt (link s.pc) with pc := pc, ie := ie }) :
    linksAndGoes i rt s pc ie := by
  obtain ⟨hwords, -, hregs, hbytes, -, hfpscr, hmarks, hsystem⟩ := inWord0_written rt (nextPc s.pc) s
  exact ⟨_, he, rfl, rfl, hwords, hregs, hbytes, hfpscr, hmarks, hsystem⟩

theorem linksAndGoes_of_branchLink (he : exec i s = branchLink rt a c s) :
    linksAndGoes i rt s (target a) (c.apply s.ie) :=
  linksAndGoes_of_setReg he

/-- The link is written in any case; the pc and IE are those of a branch taken where `event` holds (R379). -/
theorem linksAndGoes_of_branchLinkOnEvent {event : Bool} (hevent : s.eventCountNonzero = event)
    (he : exec i s = branchLinkOnEvent rt a c s) :
    linksAndGoes i rt s (if event then target a else nextPc s.pc) (if event then c.apply s.ie else s.ie) := by
  subst hevent
  rcases branchIf_cases s.eventCountNonzero a c (s.setReg rt (link s.pc)) with ⟨ht, hb⟩ | ⟨ht, hb⟩
  · rw [if_pos ht, if_pos ht]
    exact linksAndGoes_of_setReg (he.trans hb)
  · rw [if_neg (Bool.eq_false_iff.1 ht), if_neg (Bool.eq_false_iff.1 ht)]
    exact linksAndGoes_of_setReg (he.trans hb)

end Links

/-! The statements. -/

/-- Settles O24; the target is the scalar of the old state even where rt is ra, and the plain form on an event keeps IE in both
cases. -/
theorem linkBranches : Obligations.LinkBranches := by
  intro s rt ra s18 event onEvent
  have hevent : s.eventCountNonzero = event := eventCountNonzero_eq s
  refine ⟨?bisl, ?bisld, ?bisle, ?brasl, ?brsl, ?bisled, ?bisledd, ?bislede⟩
  case bisl => exact linksAndGoes_of_branchLink (c := .keep) rfl
  case bisld => exact linksAndGoes_of_branchLink (c := .disable) rfl
  case bisle => exact linksAndGoes_of_branchLink (c := .enable) rfl
  case brasl => exact linksAndGoes_of_branchLink (c := .keep) rfl
  case brsl => exact linksAndGoes_of_branchLink (c := .keep) rfl
  case bisled =>
    have hkeep : (if event then IeChange.keep.apply s.ie else s.ie) = s.ie := ite_self _
    exact hkeep ▸ linksAndGoes_of_branchLinkOnEvent (c := .keep) hevent rfl
  case bisledd => exact linksAndGoes_of_branchLinkOnEvent (c := .disable) hevent rfl
  case bislede => exact linksAndGoes_of_branchLinkOnEvent (c := .enable) hevent rfl

/-- Settles O23: the first five are taken in every state, the others by when their condition holds. -/
theorem directAndIndirectBranches : Obligations.DirectAndIndirectBranches := by
  intro s ra rc s18
  refine ⟨?bi, ?bid, ?bie, ?br, ?bra, ?brz, ?brnz, ?brhz, ?brhnz⟩
  case bi => exact branchIf_true _ .keep s
  case bid => exact branchIf_true _ .disable s
  case bie => exact branchIf_true _ .enable s
  case br => exact branchIf_true _ .keep s
  case bra => exact branchIf_true _ .keep s
  case brz => exact branchIf_keep_of_iff _ s (wordZero_iff s rc)
  case brnz => exact branchIf_keep_of_iff _ s (not_wordZero_iff s rc)
  case brhz => exact branchIf_keep_of_iff _ s (halfZero_iff s rc)
  case brhnz => exact branchIf_keep_of_iff _ s (not_halfZero_iff s rc)

/-- Settles O25: each branch by when its condition holds and by the change of IE its form stands for. -/
theorem conditionalIndirectBranches : Obligations.ConditionalIndirectBranches := by
  intro s rc ra taken goesOn
  refine ⟨?biz, ?bizd, ?bize, ?binz, ?binzd, ?binze, ?bihz, ?bihzd, ?bihze, ?bihnz, ?bihnzd, ?bihnze⟩
  case biz => exact branchIf_of_iff _ .keep s (wordZero_iff s rc)
  case bizd => exact branchIf_of_iff _ .disable s (wordZero_iff s rc)
  case bize => exact branchIf_of_iff _ .enable s (wordZero_iff s rc)
  case binz => exact branchIf_of_iff _ .keep s (not_wordZero_iff s rc)
  case binzd => exact branchIf_of_iff _ .disable s (not_wordZero_iff s rc)
  case binze => exact branchIf_of_iff _ .enable s (not_wordZero_iff s rc)
  case bihz => exact branchIf_of_iff _ .keep s (halfZero_iff s rc)
  case bihzd => exact branchIf_of_iff _ .disable s (halfZero_iff s rc)
  case bihze => exact branchIf_of_iff _ .enable s (halfZero_iff s rc)
  case bihnz => exact branchIf_of_iff _ .keep s (not_halfZero_iff s rc)
  case bihnzd => exact branchIf_of_iff _ .disable s (not_halfZero_iff s rc)
  case bihnze => exact branchIf_of_iff _ .enable s (not_halfZero_iff s rc)

/-- Settles O26: the three forms differ only in the change of IE, and none reads ra.  Protected, so that the model's operation of
this name is still meant where the name stands alone. -/
protected theorem interruptReturn : Obligations.InterruptReturn := by
  intro s ra
  exact ⟨interruptReturn_eq .keep s, interruptReturn_eq .disable s, interruptReturn_eq .enable s⟩

/-- Settles O27: every one of them only continues with the next instruction, whatever its operands. -/
theorem hintsAndNops : Obligations.HintsAndNops := by
  intro s s11 s18 r goesOn
  have hnext : continueNext s = .next goesOn := continueNext_eq s
  exact ⟨hnext, hnext, hnext, hnext, hnext, hnext⟩

end Sys2Proof.Laws
end

section
/-! Loads (R400 to R405): the bytes of storage that a load puts into its register. -/

namespace Sys2Proof.Laws

open Sys2Proof.Machine

/-- An instruction whose meaning is `loadFrom` takes its bytes from the effective address upwards, and changes nothing else
(R74, R401). -/
theorem setsBytes_of_loadFrom {i : Instr} {s : State} {rt : RegNum} {a : Word} (he : exec i s = loadFrom rt a s) :
    setsBytes i rt s fun k => s.mem.read (effAddr a + k) :=
  setsBytes_of_writeResult he fun _ hk => byteAt_readQuad s.mem (effAddr a) hk

/-- Settles O28: the meaning of each of the four is `loadFrom` at the address it computes. -/
theorem loads : Obligations.Loads := by
  intro s rt ra rb s18 s14
  refine ⟨?lqa, ?lqd, ?lqr, ?lqx⟩
  case lqa => exact setsBytes_of_loadFrom rfl
  case lqd => exact setsBytes_of_loadFrom rfl
  case lqr => exact setsBytes_of_loadFrom rfl
  case lqx => exact setsBytes_of_loadFrom rfl

end Sys2Proof.Laws
end

section
/-! Floating point (R420 to R451): what an instruction does whose meaning is `fpResult`, once for each element width and each
element-wise operation; the clamping of the conversions; and the words of a doubleword that `frds` writes. -/

namespace Sys2Proof.Laws

open Sys2Proof.Machine

section Results

variable {i : Instr} {s : State} {rt ra rb rc : RegNum} {operands : List Quad} {v : Quad}

/-- All that `fpResult` does (R420, R421): the target takes the result, FPSCR what `FPSCR_UPDATE` gives for it. -/
theorem fpResult_spec (i : Instr) (rt : RegNum) (operands : List Quad) (v : Quad) (s : State) :
    ∃ t, fpResult i rt operands v s = .next t ∧ t.reg rt = v ∧ onlyRegAndFpscr i rt operands s t := by
  have hreg (u : State) : (u.setReg rt v).advance.reg rt = v := reg_setReg_self u rt v
  obtain ⟨hpc, hregs, hbytes, hie, hfpscr, hmarks, hsystem⟩ :=
    onlyReg_write rt v { s with fpscr := Config.fpscrUpdate s.fpscr i operands v }
  exact ⟨_, rfl, hreg _, hpc, hregs, hbytes, hie, hfpscr.trans (by rw [hreg]), hmarks, hsystem⟩

theorem setsFpWords_of_fpResult {f : Nat → Word} (he : exec i s = fpResult i rt operands v s)
    (hv : ∀ k < 4, wordAt v k = f k) : setsFpWords i rt operands s f := by
  obtain ⟨t, ht, rfl, honly⟩ := fpResult_spec i rt operands v s
  exact ⟨t, he.trans ht, fun k => hv k k.isLt, honly⟩

theorem setsFpDwords_of_fpResult {f : Nat → DWord} (he : exec i s = fpResult i rt operands v s)
    (hv : ∀ k < 2, dwordAt v k = f k) : setsFpDwords i rt operands s f := by
  obtain ⟨t, ht, rfl, honly⟩ := fpResult_spec i rt operands v s
  exact ⟨t, he.trans ht, fun k => hv k k.isLt, honly⟩

theorem setsFpWords_words1 {f : Nat → Word} {g : Word → Word}
    (he : exec i s = fpResult i rt operands (words1 g (s.reg ra)) s)
    (hg : ∀ k, g (s.word ra k) = f k) : setsFpWords i rt operands s f :=
  setsFpWords_of_fpResult he fun k hk => (wordAt_words1 g _ hk).trans (hg k)

theorem setsFpWords_words2 {f : Nat → Word} {g : Word → Word → Word}
    (he : exec i s = fpResult i rt operands (words2 g (s.reg ra) (s.reg rb)) s)
    (hg : ∀ k, g (s.word ra k) (s.word rb k) = f k) : setsFpWords i rt operands s f :=
  setsFpWords_of_fpResult he fun k hk => (wordAt_words2 g _ _ hk).trans (hg k)

theorem setsFpWords_words3 {g : Word → Word → Word → Word}
    (he : exec i s = fpResult i rt operands (words3 g (s.reg ra) (s.reg rb) (s.reg rc)) s) :
    setsFpWords i rt operands s fun k => g (s.word ra k) (s.word rb k) (s.word rc k) :=
  setsFpWords_of_fpResult he fun _ hk => wordAt_words3 g _ _ _ hk

theorem setsFpDwords_dwords2 {g : DWord → DWord → DWord}
    (he : exec i s = fpResult i rt operands (dwords2 g (s.reg ra) (s.reg rb)) s) :
    setsFpDwords i rt operands s fun k => g (s.dword ra k) (s.dword rb k) :=
  setsFpDwords_of_fpResult he fun _ hk => dwordAt_dwords2 g _ _ hk

theorem setsFpDwords_dwords3 {g : DWord → DWord → DWord → DWord}
    (he : exec i s = fpResult i rt operands (dwords3 g (s.reg ra) (s.reg rb) (s.reg rc)) s) :
    setsFpDwords i rt operands s fun k => g (s.dword ra k) (s.dword rb k) (s.dword rc k) :=
  setsFpDwords_of_fpResult he fun _ hk => dwordAt_dwords3 g _ _ _ hk

end Results

/-! Values. -/

/-- An integer clamped to lo and hi: the nearest bound outside them, itself between them (R424, R425). -/
theorem clamp_eq {lo hi : Int} (h : lo ≤ hi) (n : Int) :
    max lo (min hi n) = if n < lo then lo else if hi + 1 ≤ n then hi else n := by
  split
  · omega
  · split <;> omega

theorem cflts32_eq (fpscr : Quad) (scale : BitVec 8) (a : Word) :
    let n := Config.floatToInt fpscr a scale
    cflts32 fpscr scale a =
      if n < -2 ^ 31 then 0x80000000 else if 2 ^ 31 ≤ n then 0x7FFFFFFF else BitVec.ofInt 32 n := by
  rw [cflts32, clamp_eq (by decide), apply_ite (BitVec.ofInt 32), apply_ite (BitVec.ofInt 32)]
  rfl

theorem cfltu32_eq (fpscr : Quad) (scale : BitVec 8) (a : Word) :
    let n := Config.floatToInt fpscr a scale
    cfltu32 fpscr scale a = if n < 0 then 0 else if 2 ^ 32 ≤ n then 0xFFFFFFFF else BitVec.ofInt 32 n := by
  rw [cfltu32, clamp_eq (by decide), apply_ite (BitVec.ofInt 32), apply_ite (BitVec.ofInt 32)]
  rfl

/-- Where each doubleword is a word followed by zeros, so are the even words and the odd ones (R14, R446). -/
theorem wordAt_dwords1_append_zero (g : DWord → Word) (q : Quad) {k : Nat} (h : k < 4) :
    wordAt (dwords1 (fun d => g d ++ 0#32) q) k = if k % 2 = 0 then g (dwordAt q (k / 2)) else 0 := by
  rw [wordAt_eq _ h, dwordAt_dwords1 _ _ (by omega)]
  rcases Nat.mod_two_eq_zero_or_one k with e | e <;> rw [e]
  · exact extract_append_high _ _
  · exact extract_append_low _ _

/-! The statements. -/

/-- Settles O31: each meaning is its function on the words; a compare makes a mask of it. -/
theorem singlePrecision : Obligations.SinglePrecision := by
  intro s rt ra rb rc f two three mag
  refine ⟨?fa, ?fs, ?fm, ?fi, ?fma, ?fms, ?fnms, ?frest, ?frsqest, ?fceq, ?fcgt, ?fcmeq, ?fcmgt⟩
  case fa | fs | fm | fi => exact setsFpWords_words2 rfl fun _ => rfl
  case fma | fms | fnms => exact setsFpWords_words3 rfl
  case frest | frsqest => exact setsFpWords_words1 rfl fun _ => rfl
  case fceq | fcgt | fcmeq | fcmgt => exact setsFpWords_words2 rfl fun _ => maskWord_of_iff Iff.rfl

/-- Settles O32; the free integer of `cflts` and `cfltu` meets the two bounds of each. -/
theorem conversions : Obligations.Conversions := by
  intro s rt ra scale n
  refine ⟨?cflts, ?cfltu, ?csflt, ?cuflt⟩
  case cflts => exact setsFpWords_words1 rfl fun _ => cflts32_eq s.fpscr scale _
  case cfltu => exact setsFpWords_words1 rfl fun _ => cfltu32_eq s.fpscr scale _
  case csflt => exact setsFpWords_words1 rfl fun _ => rfl
  case cuflt => exact setsFpWords_words1 rfl fun _ => rfl

/-- Settles O33; the third source of the multiply-adds is the old target, and `frds` writes words where the others write
doublewords. -/
theorem doublePrecision : Obligations.DoublePrecision := by
  intro s rt ra rb f two three
  refine ⟨?dfa, ?dfs, ?dfm, ?dfma, ?dfms, ?dfnms, ?dfnma, ?fesd, ?frds⟩
  case dfa | dfs | dfm => exact setsFpDwords_dwords2 rfl
  case dfma | dfms | dfnms | dfnma => exact setsFpDwords_dwords3 rfl
  case fesd => exact setsFpDwords_of_fpResult rfl fun _ hk => dwordAt_ofDwords _ hk
  case frds => exact setsFpWords_of_fpResult rfl fun _ hk => wordAt_dwords1_append_zero _ _ hk

/-- Settles O34: reading FPSCR is a result like any other, and the default mask lets every bit through. -/
theorem fpscrAccess : Obligations.FpscrAccess := by
  intro s rt rc ra
  exact ⟨writeResult_spec rt s.fpscr s, execFscrwr_eq rc ra s⟩

end Sys2Proof.Laws
end

section
/-! Special purpose registers, `stop` and `stopd` (R463, R464, R468, R469), and what every instruction answers (R460, R502). -/

namespace Sys2Proof.Laws

open Sys2Proof.Machine

/-! Special purpose registers (R47). -/

/-- What a register holds after a write to one that exists: the word, in that register alone (R464). -/
theorem lookup_sprWrite (s : State) (n m : SprNum) (v : Word) :
    (s.sprWrite n v).spr.lookup m = if m = n then (s.spr.lookup m).map fun _ => v else s.spr.lookup m := by
  rw [sprWrite_spr]
  induction s.spr with
  | nil => simp
  | cons e rest ih =>
    obtain ⟨k, w⟩ := e
    have hhead : (if k = n then (k, v) else (k, w)) = (k, if k = n then v else w) := (apply_ite (Prod.mk k) _ _ _).symm
    rw [List.map_cons, hhead, List.lookup_cons, List.lookup_cons, ih]
    by_cases hm : m = k
    · rw [hm, beq_self_eq_true]
      exact apply_ite some (k = n) v w
    · rw [beq_false_of_ne hm]

section

variable {s : State} {n : SprNum} {w : Word} (r : RegNum)

theorem exec_mfspr_some (h : s.spr.lookup n = some w) : exec (.mfspr r n) s = writeResult r (inWord0 w) s := by
  change execMfspr r n s = _
  simp [execMfspr, State.sprRead, h]

theorem exec_mfspr_none (h : s.spr.lookup n = none) : exec (.mfspr r n) s = .refused (.sprAbsent n) := by
  change execMfspr r n s = _
  simp [execMfspr, State.sprRead, h]

theorem exec_mtspr_some (h : s.spr.lookup n = some w) :
    exec (.mtspr n r) s = continueNext (s.sprWrite n (s.scalarReg r)) := by
  change execMtspr n r s = _
  simp [execMtspr, State.sprRead, h]

theorem exec_mtspr_none (h : s.spr.lookup n = none) : exec (.mtspr n r) s = .refused (.sprAbsent n) := by
  change execMtspr n r s = _
  simp [execMtspr, State.sprRead, h]

end

/-- Settles O37, by whether the register exists. -/
theorem specialRegisters : Obligations.SpecialRegisters := by
  intro s r n w
  refine ⟨fun h => ⟨?mfspr, ?mtspr⟩, fun h => ⟨exec_mfspr_none r h, exec_mtspr_none r h⟩⟩
  case mfspr => exact setsWords_of_writeResult (exec_mfspr_some r h) fun _ hk => wordAt_inWord0 w hk
  case mtspr =>
    refine ⟨_, exec_mtspr_some r h, ?_, fun m hm => ?_, rfl⟩
    · exact (lookup_sprWrite s n n _).trans (by rw [if_pos rfl, h]; rfl)
    · exact (lookup_sprWrite s n m _).trans (if_neg hm)

/-! Stopping (R500). -/

/-- Settles O36: both are `Stop`, `stopd` with the signal fixed for it, and the default of `STOP_NPC_OFFSET` is 4. -/
theorem stops : Obligations.Stops := fun _ _ _ _ _ => ⟨rfl, rfl⟩

/-! What an instruction answers. -/

/-- A next state, or a refusal; never a fault. -/
def noFault (o : Outcome) : Prop := (∃ t, o = .next t) ∨ ∃ e, o = .refused e

theorem mfspr_noFault (rt : RegNum) (n : SprNum) (s : State) : noFault (exec (.mfspr rt n) s) := by
  cases h : s.spr.lookup n with
  | some w => exact .inl ⟨_, exec_mfspr_some rt h⟩
  | none => exact .inr ⟨_, exec_mfspr_none rt h⟩

theorem mtspr_noFault (n : SprNum) (ra : RegNum) (s : State) : noFault (exec (.mtspr n ra) s) := by
  cases h : s.spr.lookup n with
  | some w => exact .inl ⟨_, exec_mtspr_some ra h⟩
  | none => exact .inr ⟨_, exec_mtspr_none ra h⟩

theorem rdch_noFault (rt : RegNum) (ch : ChNum) (s : State) : noFault (exec (.rdch rt ch) s) := by
  cases hr : channelReadable ch with
  | false => exact .inr ⟨_, (exec_rdch_refused_iff s rt ch).2 hr⟩
  | true =>
    cases hread : s.channelRead ch with
    | none => exact .inl ⟨_, exec_rdch_none rt hr hread⟩
    | some => exact .inl ⟨_, exec_rdch_some rt hr hread⟩

theorem wrch_noFault (ch : ChNum) (ra : RegNum) (s : State) : noFault (exec (.wrch ch ra) s) := by
  cases hw : channelWritable ch with
  | false => exact .inr ⟨_, (exec_wrch_refused_iff s ra ch).2 hw⟩
  | true =>
    cases hwrite : s.channelWrite ch (s.scalarReg ra) with
    | none => exact .inl ⟨_, exec_wrch_none hw hwrite⟩
    | some => exact .inl ⟨_, exec_wrch_some hw hwrite⟩

theorem branchIf_completes (taken : Bool) (a : Word) (c : IeChange) (s : State) : ∃ t, branchIf taken a c s = .next t := by
  rcases branchIf_cases taken a c s with ⟨-, e⟩ | ⟨-, e⟩ <;> exact ⟨_, e⟩

theorem haltIf_completes (condition : Bool) (s : State) : ∃ t, haltIf condition s = .next t := by
  rcases haltIf_cases condition s with ⟨-, e⟩ | ⟨-, e⟩ <;> exact ⟨_, e⟩

/-- Settles O55: four instructions can be refused; of the others all but the conditional ones answer a next state by
definition, and those do so whether or not their condition holds. -/
theorem noInstructionFaults : Obligations.NoInstructionFaults := by
  intro i s
  cases i
  case mfspr rt n => exact (mfspr_noFault rt n s).imp_right fun h => ⟨h, rfl⟩
  case mtspr n ra => exact (mtspr_noFault n ra s).imp_right fun h => ⟨h, rfl⟩
  case rdch rt ch => exact (rdch_noFault rt ch s).imp_right fun h => ⟨h, rfl⟩
  case wrch ch ra => exact (wrch_noFault ch ra s).imp_right fun h => ⟨h, rfl⟩
  case
    bihnz | bihnzd | bihnze | bihz | bihzd | bihze | binz | binzd | binze | biz | bizd | bize | brhnz | brhz |
    brnz | brz | bisled | bisledd | bislede => exact .inl (branchIf_completes _ _ _ _)
  case heq | heqi | hgt | hgti | hlgt | hlgti => exact .inl (haltIf_completes _ s)
  all_goals exact .inl ⟨_, rfl⟩

end Sys2Proof.Laws
end

section
/-! Outside agents and the program they interrupt (R500 to R510): what every action leaves alone, taking the interrupt, and
what can clear a pending event. -/

namespace Sys2Proof.Laws

open Sys2Proof.Machine

/-! What every action but the interrupt leaves alone. -/

/-- From s to t the registers of the SPU and its run state stay, and every pending event stays pending. -/
structure KeepsProgram (s t : State) : Prop where
  run : t.run = s.run
  gpr : t.gpr = s.gpr
  pc : t.pc = s.pc
  ie : t.ie = s.ie
  fpscr : t.fpscr = s.fpscr
  srr0 : t.srr0 = s.srr0
  npc : t.npc = s.npc
  stopCode : t.stopCode = s.stopCode
  spr : t.spr = s.spr
  events : ∀ j, s.eventPending.getLsbD j = true → t.eventPending.getLsbD j = true

theorem keepsProgram_refl (s : State) : KeepsProgram s s := ⟨rfl, rfl, rfl, rfl, rfl, rfl, rfl, rfl, rfl, fun _ h => h⟩

/-- Whatever becomes of the devices, a new event clears no other (R505, R507). -/
theorem keepsProgram_raiseEvent (s : State) (sig1 sig2 out outIntr : Option Word) (inMbox : List Word) (mfc : Mfc)
    (e : Config.Event) :
    KeepsProgram s ({ s with
      sigNotify1 := sig1, sigNotify2 := sig2, outMbox := out, outIntrMbox := outIntr
      inMbox := inMbox, mfc := mfc }.raiseEvent e) :=
  { keepsProgram_refl s with
    events := fun j hj => by rw [raiseEvent_eventPending, BitVec.getLsbD_or, hj, Bool.true_or] }

theorem keepsProgram_of_storageOnly {s t u : State} (h : KeepsProgram s t) (hu : storageOnly t u) : KeepsProgram s u := by
  obtain ⟨_, _, rfl⟩ := hu
  exact { h with }

theorem keepsProgram_agentWrite (s : State) (a : Nat) (bytes : List Byte) : KeepsProgram s (s.agentWrite a bytes) := by
  unfold State.agentWrite
  split
  exacts [keepsProgram_of_storageOnly (keepsProgram_refl s) (agentBytes_storageOnly _ s), keepsProgram_refl s]

theorem keepsProgram_dmaMove (s : State) (n k : Nat) (bytes : List Byte) : KeepsProgram s (s.dmaMove n k bytes) := by
  rcases dmaMove_cases s n k bytes with h | ⟨t, -, -, h | ⟨-, h⟩⟩ <;> rw [h]
  · exact keepsProgram_refl s
  · exact { keepsProgram_refl s with }
  · refine keepsProgram_of_storageOnly ?_ (agentBytes_storageOnly _ _)
    exact { keepsProgram_refl s with }

/-! The interrupt (R508 to R510). -/

theorem interruptible_iff (s : State) :
    s.interruptible = true ↔ s.run = .running ∧ s.ie = true ∧ s.eventPending &&& s.eventMask ≠ 0 := decide_eq_true_iff

/-- An action takes the interrupt of an SPU that can be interrupted, or leaves the program alone. -/
theorem deliver_cases (s : State) (a : EnvAction) :
    (s.interruptible = true ∧ s.deliver a = s.takeInterrupt) ∨ KeepsProgram s (s.deliver a) := by
  cases a with
  | interrupt =>
    rw [State.deliver]
    split
    · exact .inl ⟨‹_›, rfl⟩
    · exact .inr (keepsProgram_refl s)
  | quiet => exact .inr (keepsProgram_refl s)
  | atomicStatus | storeDone => exact .inr { keepsProgram_refl s with }
  | raiseEvent | signal1 | signal2 | listStall => exact .inr (keepsProgram_raiseEvent s _ _ _ _ _ _ _)
  | mailIn | takeOutMbox | takeOutIntrMbox | tagStatus | msSyncDone | dmaDone =>
    -- each finds nothing to act on, or changes its device and raises its event
    simp only [State.deliver, State.mailIn, State.takeOutMbox, State.takeOutIntrMbox, State.answerTagUpdate,
      State.finishMsSync, State.finishDma]
    split
    exacts [.inr (keepsProgram_raiseEvent s _ _ _ _ _ _ _), .inr (keepsProgram_refl s)]
  | dmaMove n k bytes => exact .inr (keepsProgram_dmaMove s n k bytes)
  | agentWrite a bytes => exact .inr (keepsProgram_agentWrite s a bytes)

/-- Settles O51: delivering the action asks for the condition and takes the interrupt where it holds. -/
theorem interruptEntry : Obligations.InterruptEntry := by
  intro s later
  exact congrArg Host.Outcome.next (if_congr (interruptible_iff { s with env := later }) rfl rfl)

/-! A stopped or halted SPU. -/

/-- Without a running instruction a step is nothing or an action, and no action takes the interrupt (R500, R501, R508). -/
theorem step_keepsProgram {s t : State} (hrun : s.run ≠ .running) (h : step s = .next t) : KeepsProgram s t := by
  rcases step_cases s with ⟨-, e⟩ | ⟨later, -, e⟩ | ⟨a, later, -, -, e⟩ <;> rw [e] at h
  · cases (runInstruction_of_not_running hrun).symm.trans h
    exact keepsProgram_refl s
  · cases (runInstruction_of_not_running (s := { s with env := later }) hrun).symm.trans h
    exact { keepsProgram_refl s with }
  · cases h
    rcases deliver_cases { s with env := later } a with ⟨hint, -⟩ | hkeeps
    · obtain ⟨hrunning, -⟩ := (interruptible_iff _).1 hint
      exact absurd hrunning hrun
    · exact { hkeeps with }

/-- Settles O53: the statement names nine of the pieces that stay. -/
theorem stoppedStays : Obligations.StoppedStays := by
  intro s t hrun h
  obtain ⟨hrun', hgpr, hpc, hie, hfpscr, hsrr0, hnpc, hstopCode, hspr, -⟩ := step_keepsProgram hrun h
  exact ⟨hrun', hgpr, hpc, hie, hfpscr, hsrr0, hnpc, hstopCode, hspr⟩

/-! Pending events (R507). -/

/-- Only a write to channel 2 changes the pending events: it clears those its word names (R48, R507). -/
theorem channelWrite_eventPending {s t : State} {ch : ChNum} {v : Word} (h : s.channelWrite ch v = some t) :
    t.eventPending = s.eventPending ∨ ch = 2 ∧ t.eventPending = s.eventPending &&& ~~~v := by
  unfold State.channelWrite at h
  split at h
  case h_2 hch => cases h; exact .inr ⟨BitVec.eq_of_toNat_eq hch, rfl⟩
  case h_4 | h_11 | h_13 | h_15 | h_16 => split at h <;> cases h; exact .inl rfl
  all_goals cases h <;> exact .inl rfl

/-- Of all effects only a write to channel 2 reaches the pending events (R507). -/
theorem exec_eventPending {i : Instr} {s t : State} (h : exec i s = .next t) :
    t.eventPending = s.eventPending ∨
      ∃ ra, i = .wrch 2 ra ∧ t.eventPending = s.eventPending &&& ~~~(s.word ra 0) := by
  cases exec_effect h with
  | readsChannel _ hr =>
    obtain ⟨-, -, -, -, -, -, -, -, -, -, -, -, hevents, -⟩ := channelRead_frame hr
    exact .inl hevents
  | writesChannel hi hw =>
    refine (channelWrite_eventPending hw).imp_right ?_
    rintro ⟨rfl, hevents⟩
    exact ⟨_, hi, hevents⟩
  | _ => exact .inl rfl

/-- Running one instruction clears an event bit only by acknowledging it. -/
theorem runInstruction_clears {s t : State} {j : Nat} (h : runInstruction s = .next t)
    (hs : s.eventPending.getLsbD j = true) (ht : t.eventPending.getLsbD j = false) :
    ∃ ra, s.fetch = .next (.wrch 2 ra) ∧ (s.word ra 0).getLsbD j = true := by
  have hne : t.eventPending ≠ s.eventPending := fun e => by simp [e, hs] at ht
  by_cases hr : s.run = .running
  · cases hf : s.fetch with
    | next i =>
      rcases exec_eventPending ((runInstruction_of_fetch hr hf).symm.trans h) with e | ⟨ra, rfl, e⟩
      · exact absurd e hne
      · refine ⟨ra, rfl, ?_⟩
        have hlt : j < 32 := BitVec.lt_of_getLsbD hs
        simpa [e, hs, hlt] using ht
    | fault r => simp [runInstruction, hr, hf] at h
    | refused r => simp [runInstruction, hr, hf] at h
  · cases (runInstruction_of_not_running hr).symm.trans h
    exact absurd rfl hne

/-- Every action, the interrupt too, keeps the pending events (R507, R510). -/
theorem deliver_events (s : State) (a : EnvAction) {j : Nat} (h : s.eventPending.getLsbD j = true) :
    (s.deliver a).eventPending.getLsbD j = true := by
  rcases deliver_cases s a with ⟨-, e⟩ | hkeeps
  · rw [e]; exact h
  · exact hkeeps.events j h

/-- Settles O60: no action clears an event, so the step ran an instruction; the one fetched is the same with a quiet action
still due. -/
theorem eventsStayUntilAcknowledged : Obligations.EventsStayUntilAcknowledged := by
  intro s t j h hs ht
  rcases step_cases s with ⟨-, e⟩ | ⟨later, -, e⟩ | ⟨a, later, -, -, e⟩ <;> rw [e] at h
  · exact runInstruction_clears h hs ht
  · exact runInstruction_clears (s := { s with env := later }) h hs ht
  · cases h
    have hkept := deliver_events { s with env := later } a hs
    rw [hkept] at ht
    cases ht

end Sys2Proof.Laws
end
